-- ==== Sys2Proof/Word.lean ====
section
/-! DEFINITION. The fixed widths of the block (00_scope.md R9, R80) and the index types of its
three-element arrays (00_scope.md section 6). -/

namespace Sys2Proof

/-- A host register, an address, a count: 32 bits (R9). -/
abbrev Word := BitVec 32

/-- A channel value, a scale, a dither accumulator, a bias: 8 bits (R9). -/
abbrev Byte := BitVec 8

/-- A host transaction word `HT`: 40 bits (R80). -/
abbrev Transaction := BitVec 40

/-- A register's byte offset on the port: 6 bits (R80). -/
abbrev Offset := BitVec 6

/-- A logical channel: 0 = R, 1 = G, 2 = B (00_scope.md section 6). -/
abbrev Channel := Fin 3

/-- A wire slot: the position of a byte within a pixel on the wire (00_scope.md section 6). The spec
holds it in 2 bits of which the value 3 never occurs (R44; log 9). -/
abbrev Slot := Fin 3

/-- One byte per logical channel: the arrays `d`, `e` and `CORR` (R20; three elements by conflict C1). -/
structure PerChannel where
  r : Byte
  g : Byte
  b : Byte
deriving DecidableEq, Repr, Inhabited

end Sys2Proof
end

