-- ==== Sys2Proof/Syntax.lean ====
section
/-! DEFINITION. The operations of the block, one constructor per row of spec/opcode_table.json
(30_encoding.md R93, R94). -/

namespace Sys2Proof

/-- The 64 operations of the opcode table, in the table's order. -/
inductive Instr where
  -- host operations on the register port (R93); `wdata` is the word written, `off` the offset
  | nop
  | rdCmd
  | rdCfg
  | rdStatus
  | rdBase
  | rdCount
  | rdAdvance
  | rdLaneOff
  | rdBright
  | rdCorr
  | rdBias
  | rdDstate
  | rdRemain
  | rdCursor
  | wrCmdStart (wdata : Word)
  | wrCmdNone (wdata : Word)
  | wrCfg (wdata : Word)
  | wrStatus (wdata : Word)
  | wrBase (wdata : Word)
  | wrCount (wdata : Word)
  | wrAdvance (wdata : Word)
  | wrLaneOff (wdata : Word)
  | wrBright (wdata : Word)
  | wrCorr (wdata : Word)
  | wrBias (wdata : Word)
  | wrDstate (wdata : Word)
  | wrRemain (wdata : Word)
  | wrCursor (wdata : Word)
  | rdRsvd34
  | rdRsvd38 (off : Offset)
  | rdMisalOdd (off : Offset)
  | rdMisal2 (off : Offset)
  | wrRsvd34 (wdata : Word)
  | wrRsvd38 (off : Offset) (wdata : Word)
  | wrMisalOdd (off : Offset) (wdata : Word)
  | wrMisal2 (off : Offset) (wdata : Word)
  -- the encoder's step in each state (R182 to R186)
  | stepIdle
  | stepWait
  | stepHighBase
  | stepHighVar
  | stepLow
  | stepDone
  -- the two wire symbols (R89)
  | bit0
  | bit1
  -- the internal procedures (R94)
  | adjust (v s dc : Byte) (en : Bool)
  | scale (c : Channel)
  | construct
  | loadByte (k : Slot)
  | advancePixel
  | has (n : Word)
  | endOfBit
  | endOfByte
  | endOfPixel
  | finish
  | tick
  | wait
  | mark
  | setHigh
  | setLow
  | toggle
  -- the pseudo-operations of host programs (R92)
  | pseudoStart
  | pseudoPoll
  | pseudoHas (n : Word)
  | pseudoShow (base n : Word)
deriving DecidableEq, Repr

end Sys2Proof
end

