-- ==== Sys2Proof/WellFormed.lean ====
section
/-! DEFINITION. Which terms of Instr are operations of the opcode table: the operands a row fixes in part
(30_encoding.md R93) and the operand range of `Adjust` (41_channel_adjuster.md R143). -/

namespace Sys2Proof

/-- `off = 0x38` or `0x3C`: the rows `RD.RSVD.38_3C` and `WR.RSVD.38_3C` (R93). -/
def Offset.reserved38 (off : Offset) : Bool := off == 0x38#6 || off == 0x3C#6

/-- `off[0] = 1`: the rows `RD.MISAL.ODD` and `WR.MISAL.ODD` (R93). -/
def Offset.odd (off : Offset) : Bool := off.getLsbD 0

/-- `off[1:0] = 10`: the rows `RD.MISAL.2` and `WR.MISAL.2` (R93). -/
def Offset.evenMisaligned (off : Offset) : Bool := !off.getLsbD 0 && off.getLsbD 1

/-- The check: what each row fixes of its operands holds of the term. -/
def Instr.wellFormed : Instr → Bool
  | .nop => true
  | .rdCmd => true
  | .rdCfg => true
  | .rdStatus => true
  | .rdBase => true
  | .rdCount => true
  | .rdAdvance => true
  | .rdLaneOff => true
  | .rdBright => true
  | .rdCorr => true
  | .rdBias => true
  | .rdDstate => true
  | .rdRemain => true
  | .rdCursor => true
  | .wrCmdStart wdata => wdata.getLsbD 0
  | .wrCmdNone wdata => !wdata.getLsbD 0
  | .wrCfg _ => true
  | .wrStatus _ => true
  | .wrBase _ => true
  | .wrCount _ => true
  | .wrAdvance _ => true
  | .wrLaneOff _ => true
  | .wrBright _ => true
  | .wrCorr _ => true
  | .wrBias _ => true
  | .wrDstate _ => true
  | .wrRemain _ => true
  | .wrCursor _ => true
  | .rdRsvd34 => true
  | .rdRsvd38 off => Offset.reserved38 off
  | .rdMisalOdd off => Offset.odd off
  | .rdMisal2 off => Offset.evenMisaligned off
  | .wrRsvd34 _ => true
  | .wrRsvd38 off _ => Offset.reserved38 off
  | .wrMisalOdd off _ => Offset.odd off
  | .wrMisal2 off _ => Offset.evenMisaligned off
  | .stepIdle => true
  | .stepWait => true
  | .stepHighBase => true
  | .stepHighVar => true
  | .stepLow => true
  | .stepDone => true
  | .bit0 => true
  | .bit1 => true
  | .adjust _ _ dc _ => decide (dc.toNat ≤ 254)
  | .scale _ => true
  | .construct => true
  | .loadByte _ => true
  | .advancePixel => true
  | .has _ => true
  | .endOfBit => true
  | .endOfByte => true
  | .endOfPixel => true
  | .finish => true
  | .tick => true
  | .wait => true
  | .mark => true
  | .setHigh => true
  | .setLow => true
  | .toggle => true
  | .pseudoStart => true
  | .pseudoPoll => true
  | .pseudoHas _ => true
  | .pseudoShow _ _ => true

end Sys2Proof
end

