-- ==== Sys2Proof/Decode.lean ====
section
/-! DEFINITION. The three encodings of 30_encoding.md: the 40-bit transaction word (R80, R93), the 3-bit
state code (R86), the one-bit wire pattern (R89); the decoder, total on every word; the encoder; and the
36 host rows of spec/opcode_table.json as match and mask (R93). -/

namespace Sys2Proof

/-- The formats of the opcode table whose rows have a word: `HT`, `state`, `wire` (R94). -/
inductive Format where
  | ht
  | state
  | wire
deriving DecidableEq, Repr

/-- The width in bits of a format's word (R80, R86, R94). -/
def Format.width : Format → Nat
  | .ht => 40
  | .state => 3
  | .wire => 1

/-- Why a number decodes to nothing: it is wider than its format, or it is one of the state codes 6 and 7,
which never occur (R86). -/
inductive DecodeError where
  | wordTooWide
  | reservedStateCode
deriving DecidableEq, Repr

/-! ### The transaction word (R80) -/

/-- Bit 39, `valid`. -/
def htValid (w : Transaction) : Bool := w.getLsbD 39

/-- Bit 38, `we`. -/
def htWe (w : Transaction) : Bool := w.getLsbD 38

/-- Bits 37:32, `off`. -/
def htOff (w : Transaction) : Offset := w.extractLsb' 32 6

/-- Bits 31:0, `wdata`. -/
def htData (w : Transaction) : Word := w.extractLsb' 0 32

/-- The word with `valid = 1` and the other three fields as given (R80). -/
def htWord (we : Bool) (off : Offset) (wdata : Word) : Transaction :=
  BitVec.ofNat 1 1 ++ BitVec.ofBool we ++ off ++ wdata

/-- A read at offset `off` (R93, the column `we = 0`). -/
def decodeRead (off : Offset) : Instr :=
  if off.getLsbD 0 then .rdMisalOdd off
  else if off.getLsbD 1 then .rdMisal2 off
  else if off = 0x00#6 then .rdCmd
  else if off = 0x04#6 then .rdCfg
  else if off = 0x08#6 then .rdStatus
  else if off = 0x0C#6 then .rdBase
  else if off = 0x10#6 then .rdCount
  else if off = 0x14#6 then .rdAdvance
  else if off = 0x18#6 then .rdLaneOff
  else if off = 0x1C#6 then .rdBright
  else if off = 0x20#6 then .rdCorr
  else if off = 0x24#6 then .rdBias
  else if off = 0x28#6 then .rdDstate
  else if off = 0x2C#6 then .rdRemain
  else if off = 0x30#6 then .rdCursor
  else if off = 0x34#6 then .rdRsvd34
  else .rdRsvd38 off

/-- A write of `wdata` at offset `off` (R93, the column `we = 1`). -/
def decodeWrite (off : Offset) (wdata : Word) : Instr :=
  if off.getLsbD 0 then .wrMisalOdd off wdata
  else if off.getLsbD 1 then .wrMisal2 off wdata
  else if off = 0x00#6 then (if wdata.getLsbD 0 then .wrCmdStart wdata else .wrCmdNone wdata)
  else if off = 0x04#6 then .wrCfg wdata
  else if off = 0x08#6 then .wrStatus wdata
  else if off = 0x0C#6 then .wrBase wdata
  else if off = 0x10#6 then .wrCount wdata
  else if off = 0x14#6 then .wrAdvance wdata
  else if off = 0x18#6 then .wrLaneOff wdata
  else if off = 0x1C#6 then .wrBright wdata
  else if off = 0x20#6 then .wrCorr wdata
  else if off = 0x24#6 then .wrBias wdata
  else if off = 0x28#6 then .wrDstate wdata
  else if off = 0x2C#6 then .wrRemain wdata
  else if off = 0x30#6 then .wrCursor wdata
  else if off = 0x34#6 then .wrRsvd34 wdata
  else .wrRsvd38 off wdata

/-- The operation a transaction word selects: complete over all 2^40 words (R80, R93). With `valid = 0`
every other bit is ignored, on a read `wdata` is (R80; log 16). -/
def decodeTransaction (w : Transaction) : Instr :=
  if htValid w then
    if htWe w then decodeWrite (htOff w) (htData w) else decodeRead (htOff w)
  else .nop

/-- The state step with a given code (R86, R94). -/
def decodeState : Nat → Except DecodeError Instr
  | 0 => .ok .stepIdle
  | 1 => .ok .stepWait
  | 2 => .ok .stepHighBase
  | 3 => .ok .stepHighVar
  | 4 => .ok .stepLow
  | 5 => .ok .stepDone
  | 6 => .error .reservedStateCode
  | 7 => .error .reservedStateCode
  | _ => .error .wordTooWide

/-- The wire symbol with a given pattern (R89, R94). -/
def decodeWire : Nat → Except DecodeError Instr
  | 0 => .ok .bit0
  | 1 => .ok .bit1
  | _ => .error .wordTooWide

/-- The decoder: total on every number, refusing by name. -/
def decode (f : Format) (w : Nat) : Except DecodeError Instr :=
  match f with
  | .ht => if w < 2 ^ 40 then .ok (decodeTransaction (BitVec.ofNat 40 w)) else .error .wordTooWide
  | .state => decodeState w
  | .wire => decodeWire w

/-- The instruction the decoder reads from a row of spec/opcode_table.json whose bits are `w`. A host row has
40 bits. A state code has 3 bits and a wire pattern 1; given as one whole byte the two are not told apart by
their width, and the byte is read as a state code (log 15). -/
def decodeTableWord (nbits w : Nat) : Option Instr :=
  let f : Option Format :=
    if nbits = 40 then some .ht
    else if nbits = 3 ∨ nbits = 8 then some .state
    else if nbits = 1 then some .wire
    else none
  match f with
  | none => none
  | some f =>
    match decode f w with
    | .ok i => some i
    | .error _ => none

/-! ### The encoder -/

/-- A read row's word, `wdata = 0` (R91). -/
def encodeRead (off : Offset) : Option (Format × Nat) := some (.ht, (htWord false off 0).toNat)

/-- A write row's word. -/
def encodeWrite (off : Offset) (wdata : Word) : Option (Format × Nat) :=
  some (.ht, (htWord true off wdata).toNat)

/-- The word of an operation, with its format. The internal procedures and the pseudo-operations have none
(R94). -/
def encode : Instr → Option (Format × Nat)
  | .nop => some (.ht, 0)
  | .rdCmd => encodeRead 0x00
  | .rdCfg => encodeRead 0x04
  | .rdStatus => encodeRead 0x08
  | .rdBase => encodeRead 0x0C
  | .rdCount => encodeRead 0x10
  | .rdAdvance => encodeRead 0x14
  | .rdLaneOff => encodeRead 0x18
  | .rdBright => encodeRead 0x1C
  | .rdCorr => encodeRead 0x20
  | .rdBias => encodeRead 0x24
  | .rdDstate => encodeRead 0x28
  | .rdRemain => encodeRead 0x2C
  | .rdCursor => encodeRead 0x30
  | .wrCmdStart wdata => encodeWrite 0x00 wdata
  | .wrCmdNone wdata => encodeWrite 0x00 wdata
  | .wrCfg wdata => encodeWrite 0x04 wdata
  | .wrStatus wdata => encodeWrite 0x08 wdata
  | .wrBase wdata => encodeWrite 0x0C wdata
  | .wrCount wdata => encodeWrite 0x10 wdata
  | .wrAdvance wdata => encodeWrite 0x14 wdata
  | .wrLaneOff wdata => encodeWrite 0x18 wdata
  | .wrBright wdata => encodeWrite 0x1C wdata
  | .wrCorr wdata => encodeWrite 0x20 wdata
  | .wrBias wdata => encodeWrite 0x24 wdata
  | .wrDstate wdata => encodeWrite 0x28 wdata
  | .wrRemain wdata => encodeWrite 0x2C wdata
  | .wrCursor wdata => encodeWrite 0x30 wdata
  | .rdRsvd34 => encodeRead 0x34
  | .rdRsvd38 off => encodeRead off
  | .rdMisalOdd off => encodeRead off
  | .rdMisal2 off => encodeRead off
  | .wrRsvd34 wdata => encodeWrite 0x34 wdata
  | .wrRsvd38 off wdata => encodeWrite off wdata
  | .wrMisalOdd off wdata => encodeWrite off wdata
  | .wrMisal2 off wdata => encodeWrite off wdata
  | .stepIdle => some (.state, 0)
  | .stepWait => some (.state, 1)
  | .stepHighBase => some (.state, 2)
  | .stepHighVar => some (.state, 3)
  | .stepLow => some (.state, 4)
  | .stepDone => some (.state, 5)
  | .bit0 => some (.wire, 0)
  | .bit1 => some (.wire, 1)
  | .adjust _ _ _ _ => none
  | .scale _ => none
  | .construct => none
  | .loadByte _ => none
  | .advancePixel => none
  | .has _ => none
  | .endOfBit => none
  | .endOfByte => none
  | .endOfPixel => none
  | .finish => none
  | .tick => none
  | .wait => none
  | .mark => none
  | .setHigh => none
  | .setLow => none
  | .toggle => none
  | .pseudoStart => none
  | .pseudoPoll => none
  | .pseudoHas _ => none
  | .pseudoShow _ _ => none

/-! ### The host rows of the opcode table -/

/-- A host row: its mnemonic, and the match and the mask by which a word selects it (R93). -/
structure HostRow where
  mnemonic : String
  bits : Transaction
  mask : Transaction
deriving DecidableEq, Repr

/-- A word `w` selects a row when `w and mask = match` (R93). -/
def HostRow.selects (row : HostRow) (w : Transaction) : Bool := w &&& row.mask == row.bits

/-- Rows `NOP` and `RD.*` of the thirteen registers. -/
def hostReadRows : List HostRow :=
  [ ⟨"NOP", 0x0000000000, 0x8000000000⟩,
    ⟨"RD.CMD", 0x8000000000, 0xFF00000000⟩,
    ⟨"RD.CFG", 0x8400000000, 0xFF00000000⟩,
    ⟨"RD.STATUS", 0x8800000000, 0xFF00000000⟩,
    ⟨"RD.BASE", 0x8C00000000, 0xFF00000000⟩,
    ⟨"RD.COUNT", 0x9000000000, 0xFF00000000⟩,
    ⟨"RD.ADVANCE", 0x9400000000, 0xFF00000000⟩,
    ⟨"RD.LANE_OFF", 0x9800000000, 0xFF00000000⟩,
    ⟨"RD.BRIGHT", 0x9C00000000, 0xFF00000000⟩,
    ⟨"RD.CORR", 0xA000000000, 0xFF00000000⟩,
    ⟨"RD.BIAS", 0xA400000000, 0xFF00000000⟩,
    ⟨"RD.DSTATE", 0xA800000000, 0xFF00000000⟩,
    ⟨"RD.REMAIN", 0xAC00000000, 0xFF00000000⟩,
    ⟨"RD.CURSOR", 0xB000000000, 0xFF00000000⟩ ]

/-- Rows `WR.*` of the thirteen registers. -/
def hostWriteRows : List HostRow :=
  [ ⟨"WR.CMD.START", 0xC000000001, 0xFF00000001⟩,
    ⟨"WR.CMD.NONE", 0xC000000000, 0xFF00000001⟩,
    ⟨"WR.CFG", 0xC400000000, 0xFF00000000⟩,
    ⟨"WR.STATUS", 0xC800000000, 0xFF00000000⟩,
    ⟨"WR.BASE", 0xCC00000000, 0xFF00000000⟩,
    ⟨"WR.COUNT", 0xD000000000, 0xFF00000000⟩,
    ⟨"WR.ADVANCE", 0xD400000000, 0xFF00000000⟩,
    ⟨"WR.LANE_OFF", 0xD800000000, 0xFF00000000⟩,
    ⟨"WR.BRIGHT", 0xDC00000000, 0xFF00000000⟩,
    ⟨"WR.CORR", 0xE000000000, 0xFF00000000⟩,
    ⟨"WR.BIAS", 0xE400000000, 0xFF00000000⟩,
    ⟨"WR.DSTATE", 0xE800000000, 0xFF00000000⟩,
    ⟨"WR.REMAIN", 0xEC00000000, 0xFF00000000⟩,
    ⟨"WR.CURSOR", 0xF000000000, 0xFF00000000⟩ ]

/-- The rows of the reserved and the misaligned offsets. -/
def hostOtherRows : List HostRow :=
  [ ⟨"RD.RSVD.34", 0xB400000000, 0xFF00000000⟩,
    ⟨"RD.RSVD.38_3C", 0xB800000000, 0xFB00000000⟩,
    ⟨"RD.MISAL.ODD", 0x8100000000, 0xC100000000⟩,
    ⟨"RD.MISAL.2", 0x8200000000, 0xC300000000⟩,
    ⟨"WR.RSVD.34", 0xF400000000, 0xFF00000000⟩,
    ⟨"WR.RSVD.38_3C", 0xF800000000, 0xFB00000000⟩,
    ⟨"WR.MISAL.ODD", 0xC100000000, 0xC100000000⟩,
    ⟨"WR.MISAL.2", 0xC200000000, 0xC300000000⟩ ]

/-- The 36 host rows of spec/opcode_table.json. -/
def hostRows : List HostRow := hostReadRows ++ hostWriteRows ++ hostOtherRows

/-- The mnemonic of an operation's row in spec/opcode_table.json. -/
def Instr.mnemonic : Instr → String
  | .nop => "NOP"
  | .rdCmd => "RD.CMD"
  | .rdCfg => "RD.CFG"
  | .rdStatus => "RD.STATUS"
  | .rdBase => "RD.BASE"
  | .rdCount => "RD.COUNT"
  | .rdAdvance => "RD.ADVANCE"
  | .rdLaneOff => "RD.LANE_OFF"
  | .rdBright => "RD.BRIGHT"
  | .rdCorr => "RD.CORR"
  | .rdBias => "RD.BIAS"
  | .rdDstate => "RD.DSTATE"
  | .rdRemain => "RD.REMAIN"
  | .rdCursor => "RD.CURSOR"
  | .wrCmdStart _ => "WR.CMD.START"
  | .wrCmdNone _ => "WR.CMD.NONE"
  | .wrCfg _ => "WR.CFG"
  | .wrStatus _ => "WR.STATUS"
  | .wrBase _ => "WR.BASE"
  | .wrCount _ => "WR.COUNT"
  | .wrAdvance _ => "WR.ADVANCE"
  | .wrLaneOff _ => "WR.LANE_OFF"
  | .wrBright _ => "WR.BRIGHT"
  | .wrCorr _ => "WR.CORR"
  | .wrBias _ => "WR.BIAS"
  | .wrDstate _ => "WR.DSTATE"
  | .wrRemain _ => "WR.REMAIN"
  | .wrCursor _ => "WR.CURSOR"
  | .rdRsvd34 => "RD.RSVD.34"
  | .rdRsvd38 _ => "RD.RSVD.38_3C"
  | .rdMisalOdd _ => "RD.MISAL.ODD"
  | .rdMisal2 _ => "RD.MISAL.2"
  | .wrRsvd34 _ => "WR.RSVD.34"
  | .wrRsvd38 _ _ => "WR.RSVD.38_3C"
  | .wrMisalOdd _ _ => "WR.MISAL.ODD"
  | .wrMisal2 _ _ => "WR.MISAL.2"
  | .stepIdle => "STEP.IDLE"
  | .stepWait => "STEP.WAIT"
  | .stepHighBase => "STEP.HIGH_BASE"
  | .stepHighVar => "STEP.HIGH_VAR"
  | .stepLow => "STEP.LOW"
  | .stepDone => "STEP.DONE"
  | .bit0 => "BIT0"
  | .bit1 => "BIT1"
  | .adjust _ _ _ _ => "Adjust"
  | .scale _ => "Scale"
  | .construct => "Construct"
  | .loadByte _ => "LoadByte"
  | .advancePixel => "AdvancePixel"
  | .has _ => "Has"
  | .endOfBit => "EndOfBit"
  | .endOfByte => "EndOfByte"
  | .endOfPixel => "EndOfPixel"
  | .finish => "Finish"
  | .tick => "Tick"
  | .wait => "Wait"
  | .mark => "Mark"
  | .setHigh => "SetHigh"
  | .setLow => "SetLow"
  | .toggle => "Toggle"
  | .pseudoStart => "start"
  | .pseudoPoll => "poll"
  | .pseudoHas _ => "has"
  | .pseudoShow _ _ => "show"

end Sys2Proof
end

