-- ==== Sys2Proof/Config.lean ====
section
/-! DEFINITION. The build parameters of an instance (00_scope.md R6, R7, R8). The spec gives them no
value (93_implementation_defined.md U1, U2): an instance is plain data in State, and the instance that
State.reset carries is opaque (log 1). -/

namespace Sys2Proof

/-- The parameters `P` of a well-formed instance (R6, R7). `T1` and `T3` are held less one, so that every
value of this type satisfies `WF(P)` of R8 and an ill-formed instance does not exist (R231, U3; log 1). -/
structure Params where
  t1Pred : Fin 65535
  t2 : BitVec 16
  t3Pred : Fin 65535
  waitTime : Word
deriving DecidableEq, Repr, Inhabited

namespace Params

/-- `P.T1`, 1 to 65535 cycles (R6, R8). -/
def T1 (p : Params) : Nat := p.t1Pred.val + 1

/-- `P.T2`, 0 to 65535 cycles (R6). -/
def T2 (p : Params) : Nat := p.t2.toNat

/-- `P.T3`, 1 to 65535 cycles (R6, R8). -/
def T3 (p : Params) : Nat := p.t3Pred.val + 1

/-- `P.WAIT_TIME`, 0 to 2^32 − 1 cycles (R7). -/
def WAIT_TIME (p : Params) : Nat := p.waitTime.toNat

/-- `TB = T1 + T2 + T3`, one bit period (R6, R193). -/
def TB (p : Params) : Nat := p.T1 + p.T2 + p.T3

end Params

/-- The four numbers chosen when an instance is built, before the build-time assertion (R6, R7). -/
structure RawParams where
  T1 : BitVec 16
  T2 : BitVec 16
  T3 : BitVec 16
  WAIT_TIME : Word
deriving DecidableEq, Repr

/-- `WF(P)`: `T1 ≥ 1` and `T3 ≥ 1` (R8). -/
abbrev RawParams.WF (q : RawParams) : Prop := 1 ≤ q.T1.toNat ∧ 1 ≤ q.T3.toNat

/-- The build-time assertion (R8, R231): a well-formed choice of numbers builds an instance, and an
ill-formed one builds none. -/
def RawParams.build? (q : RawParams) : Option Params :=
  if h : q.WF then
    some
      { t1Pred := ⟨q.T1.toNat - 1, by have := q.T1.isLt; have := h.1; omega⟩
        t2 := q.T2
        t3Pred := ⟨q.T3.toNat - 1, by have := q.T3.isLt; have := h.2; omega⟩
        waitTime := q.WAIT_TIME }
  else none

/-- The instance the model's reset state carries: an open parameter of the spec (U1, U2), so a constant
with no body, of which nothing is known but that it is well formed (log 1). -/
opaque Config.instanceParams : Params

end Sys2Proof
end

