-- ==== Sys2Proof/Machine/State.lean ====
section
/-! DEFINITION. Everything the spec gives the machine (10_state.md R20 to R52), its inputs held as plain data
(R54) and its recorded outputs (00_scope.md R13), with the state after reset (70_reset_and_hazards.md R251). -/

namespace Sys2Proof.Machine

/-- The legal channel-order codes, named by the wire order they spell (R87, R21). The codes 6 and 7 are never
held (R83; log 9). -/
inductive WireOrder where
  | rgb
  | rbg
  | grb
  | gbr
  | brg
  | bgr
deriving DecidableEq, Repr, Inhabited

/-- The states of the Protocol State Machine (R41, R180). The codes 6 and 7 never occur (R86; log 9). -/
inductive EncState where
  | idle
  | wait
  | highBase
  | highVar
  | low
  | done
deriving DecidableEq, Repr, Inhabited

/-- The configuration registers, written by the host and read by the block (R20 group 1, R21 to R28). -/
structure Regs where
  /-- `CFG.DITHER_EN` (R21). -/
  ditherEn : Bool
  /-- `CFG.ZLP` (R21). -/
  zlp : Bool
  /-- `CFG.ORDER` (R21). -/
  order : WireOrder
  /-- `BASE` (R22). -/
  base : Word
  /-- `COUNT` (R23). -/
  count : Word
  /-- `ADVANCE`, read as a signed number wherever it is used (R24). -/
  advance : Word
  /-- `LANE_OFF` (R25). -/
  laneOff : Word
  /-- `BRIGHT` (R26). -/
  bright : Byte
  /-- `CORR[0..2]` (R27). -/
  corr : PerChannel
  /-- `e[0..2]`, the location `BIAS` (R28). -/
  bias : PerChannel
deriving DecidableEq, Repr

/-- The traversal state, written by the block only (R20 group 2, R30 to R32). -/
structure Traversal where
  /-- `cursor` (R30). -/
  cursor : Word
  /-- `remain` (R31). -/
  remain : Word
  /-- `d[0..2]` (R32). -/
  d : PerChannel
deriving DecidableEq, Repr

/-- The encoder state: `(st, ph, bitn, slot)` play the part of a program counter (R40 to R46). -/
structure Encoder where
  /-- `st` (R41). -/
  st : EncState
  /-- `ph`, 17 bits (R42). -/
  ph : BitVec 17
  /-- `bitn`, 3 bits (R43). -/
  bitn : BitVec 3
  /-- `slot` (R44). -/
  slot : Slot
  /-- `sr`, the shift register (R45). -/
  sr : Byte
  /-- `cb`, the bit now being sent (R46). -/
  cb : Bool
deriving DecidableEq, Repr

/-- The governor state (R50, R51). -/
structure Governor where
  /-- `gov_marked` (R50). -/
  marked : Bool
  /-- `gov_elapsed`, 32 bits (R51). -/
  elapsed : Word
deriving DecidableEq, Repr

/-- What the host does on its side of the block in one cycle: it presents a transaction word (R80), runs a
line of the program notation that stands for several words (R92), or asserts the reset input (R250). -/
inductive HostInput where
  /-- A transaction word on the register port. -/
  | word (ht : Transaction)
  /-- The line `start`. -/
  | start
  /-- The line `poll`. -/
  | poll
  /-- The line `has n`. -/
  | has (n : Word)
  /-- The line `show base, n`. -/
  | showFrame (base n : Word)
  /-- The reset input is asserted in this cycle; no operation is presented (log 8). -/
  | reset
deriving DecidableEq, Repr

/-- One cycle of the host: its stores to the pixel memory that land before the block's read of this cycle
(R70, R71, R256; log 7), oldest first, and its input. -/
structure HostCycle where
  stores : List (Word × Byte)
  input : HostInput
deriving DecidableEq, Repr

/-- What a procedure that writes no state returns: `Adjust` a pair, `Scale` a byte, `Has`, `Wait` and the
comparison of `has n` a truth value (R94; log 5). -/
inductive ProcResult where
  | adjusted (o dn : Byte)
  | byte (b : Byte)
  | flag (b : Bool)
deriving DecidableEq, Repr

/-- The machine: the block's state, its inputs (`params`, `mem`, `host`) and its recorded outputs (`rdata`,
`ret`, `trace`, `reads`). -/
structure State where
  /-- The instance's build parameters `P` (R6, R7). No operation changes them. -/
  params : Params
  /-- The pixel memory (R60): the bytes that differ from what an unlisted address reads as, by rising
  address (log 2). -/
  mem : List Host.Cell
  /-- The host's cycles still to come, the next one first; none left presents no operation (log 3). -/
  host : List HostCycle
  /-- The configuration registers. -/
  regs : Regs
  /-- The traversal state. -/
  trav : Traversal
  /-- The encoder state. -/
  enc : Encoder
  /-- The governor state. -/
  gov : Governor
  /-- `line`, the level on the pin during the current cycle (R52, R220). -/
  line : Bool
  /-- The port's answer in the last cycle, if that was a read (R80, R100; log 5). -/
  rdata : Option Word
  /-- The value the last value-returning procedure returned (log 5). -/
  ret : Option ProcResult
  /-- The level of `line` in every cycle so far, the newest first (R13; log 6). -/
  trace : List Bool
  /-- The pixel-memory addresses read so far, the newest first (R13, R172; log 6). -/
  reads : List Word
deriving DecidableEq, Repr

/-- Why the machine would stop with a fault: no reason exists, since the set of run-time exceptions is empty
(R230; log 17). -/
inductive Fault where
deriving DecidableEq, Repr

/-- Why the model would refuse an operation. -/
inductive Refusal where
  /-- Raised by an arm of `exec` whose operation has no meaning yet (safe: nothing can be proved of it). No
  arm raises it: every operation of the table has its meaning. -/
  | notModelled (mnemonic : String)
deriving DecidableEq, Repr

/-- The configuration registers after reset (R251). -/
def Regs.reset : Regs where
  ditherEn := false
  zlp := false
  order := .rgb
  base := 0
  count := 0
  advance := 1
  laneOff := 0
  bright := 255
  corr := ⟨255, 255, 255⟩
  bias := ⟨0, 0, 0⟩

/-- The traversal state after reset (R251). -/
def Traversal.reset : Traversal where
  cursor := 0
  remain := 0
  d := ⟨0, 0, 0⟩

/-- The encoder state after reset (R251). -/
def Encoder.reset : Encoder where
  st := .idle
  ph := 0
  bitn := 0
  slot := 0
  sr := 0
  cb := false

/-- The governor state after reset (R251). -/
def Governor.reset : Governor where
  marked := false
  elapsed := 0

/-- An instance `p` right after reset, with pixel memory `mem` and the host's coming cycles `host`: how a test
or a claim sets a machine up (log 4). -/
def State.resetWith (p : Params) (mem : List Host.Cell) (host : List HostCycle) : State where
  params := p
  mem := mem
  host := host
  regs := Regs.reset
  trav := Traversal.reset
  enc := Encoder.reset
  gov := Governor.reset
  line := false
  rdata := none
  ret := none
  trace := []
  reads := []

/-- The machine right after reset (R250, R251): the open instance (log 1), no listed memory (log 2), no
operation pending (log 3). -/
def State.reset : State := State.resetWith Config.instanceParams [] []

end Sys2Proof.Machine
end

