-- ==== Sys2Proof/Machine/Ops.lean ====
section
/-! DEFINITION. The named operations over the pixel memory (20_memory.md) and over the fields of State, which
every meaning is written with. Nothing on this hardware takes an exception (60_exceptions.md R230, R237), so
there is no entry and no return among them. -/

namespace Sys2Proof

/-! ### Arrays indexed by logical channel -/

/-- Element `c` of `d`, `e` or `CORR` (R27, R28, R32). -/
def PerChannel.get (p : PerChannel) (c : Channel) : Byte :=
  if c = 0 then p.r else if c = 1 then p.g else p.b

/-- The array with element `c` replaced. -/
def PerChannel.set (p : PerChannel) (c : Channel) (v : Byte) : PerChannel :=
  if c = 0 then { p with r := v } else if c = 1 then { p with g := v } else { p with b := v }

end Sys2Proof

namespace Sys2Proof.Machine

/-! ### Pixel memory -/

/-- What an address reads as that the memory does not list (log 2). -/
def Memory.unlisted : Byte := 0

/-- The byte at address `a` (R60, R61). -/
def Memory.read (m : List Host.Cell) (a : Word) : Byte :=
  match m with
  | [] => Memory.unlisted
  | (k, v) :: rest => if k = a.toNat then v else Memory.read rest a

/-- `m` with a cell for address `a` put before the rest, unless the byte is what an unlisted address reads
as. -/
def Memory.putCell (a : Nat) (b : Byte) (m : List Host.Cell) : List Host.Cell :=
  if b = Memory.unlisted then m else (a, b) :: m

/-- The memory with byte `b` at address `a`, in canonical form again: a host store (R71). -/
def Memory.write (m : List Host.Cell) (a : Word) (b : Byte) : List Host.Cell :=
  match m with
  | [] => Memory.putCell a.toNat b []
  | (k, v) :: rest =>
    if a.toNat < k then Memory.putCell a.toNat b ((k, v) :: rest)
    else if a.toNat = k then Memory.putCell a.toNat b rest
    else (k, v) :: Memory.write rest a b

/-- The host's stores of one cycle, oldest first (R71). -/
def Memory.writeAll (m : List Host.Cell) : List (Word × Byte) → List Host.Cell
  | [] => m
  | (a, b) :: rest => Memory.writeAll (Memory.write m a b) rest

/-- Every listed address is at least `lo` and below 2^32, they rise strictly, and no listed byte is what an
unlisted address reads as. -/
def Memory.wfFrom (lo : Nat) : List Host.Cell → Bool
  | [] => true
  | (k, v) :: rest => decide (lo ≤ k) && decide (k < 2 ^ 32) && (v != Memory.unlisted) && Memory.wfFrom (k + 1) rest

/-- The canonical form of the memory (log 2). -/
def Memory.wf (m : List Host.Cell) : Bool := Memory.wfFrom 0 m

/-! ### Field updates -/

/-- Replace the pixel memory: the host's stores. -/
def State.setMem (s : State) (m : List Host.Cell) : State := { s with mem := m }

/-- Replace the host's coming cycles. -/
def State.setHost (s : State) (h : List HostCycle) : State := { s with host := h }

/-- Replace the configuration registers. -/
def State.setRegs (s : State) (r : Regs) : State := { s with regs := r }

/-- Replace the traversal state. -/
def State.setTrav (s : State) (t : Traversal) : State := { s with trav := t }

/-- Replace the encoder state. -/
def State.setEnc (s : State) (e : Encoder) : State := { s with enc := e }

/-- Replace the governor state. -/
def State.setGov (s : State) (g : Governor) : State := { s with gov := g }

/-- Drive the pin. -/
def State.setLine (s : State) (b : Bool) : State := { s with line := b }

/-- Set the port's answer. -/
def State.setRdata (s : State) (w : Option Word) : State := { s with rdata := w }

/-- Set the value a procedure returned. -/
def State.setRet (s : State) (r : ProcResult) : State := { s with ret := some r }

/-- Record levels of the pin, the newest first. -/
def State.logLevels (s : State) (l : List Bool) : State := { s with trace := l ++ s.trace }

/-- Record a pixel-memory read. -/
def State.logRead (s : State) (a : Word) : State := { s with reads := a :: s.reads }

/-- `st <- S`, the block's only control transfer (00_scope.md section 6). -/
def State.goto (s : State) (st : EncState) : State := s.setEnc { s.enc with st := st }

/-- `ph <- ph + 1`: the phase goes on. -/
def State.nextPhase (s : State) : State := s.setEnc { s.enc with ph := s.enc.ph + 1 }

/-- Every piece of the block's own state at its reset value (R251); inputs and records are kept. -/
def State.resetBlock (s : State) : State :=
  { s with
    regs := Regs.reset
    trav := Traversal.reset
    enc := Encoder.reset
    gov := Governor.reset
    line := false }

/-- One cycle with the reset input asserted: the line is low at once and the block holds its reset values
(R250, R252; log 8). -/
def State.resetCycle (s : State) : State := (s.resetBlock.logLevels [false]).setRdata none

end Sys2Proof.Machine
end

