-- ==== Sys2Proof/Machine/Operands.lean ====
section
/-! DEFINITION. The operand computations of the spec: the channel-order table, the scales, the addresses of a
frame, and the packing of registers into words (30_encoding.md R83, R85, R87, R163; 41 R141; 42 R162, R164,
R172). -/

namespace Sys2Proof.Machine

/-! ### The channel order (R87) -/

/-- The code of a channel order (R87). -/
def WireOrder.code : WireOrder → BitVec 3
  | .rgb => 0
  | .rbg => 1
  | .grb => 2
  | .gbr => 3
  | .brg => 4
  | .bgr => 5

/-- The channel order with a given code; 6 and 7 are reserved (R83, R87). -/
def WireOrder.ofCode? (code : BitVec 3) : Option WireOrder :=
  if code = 0 then some .rgb
  else if code = 1 then some .rbg
  else if code = 2 then some .grb
  else if code = 3 then some .gbr
  else if code = 4 then some .brg
  else if code = 5 then some .bgr
  else none

/-- A row of three table entries, read at 0, 1 or 2. -/
def pick (x0 x1 x2 : Fin 3) (k : Fin 3) : Fin 3 := if k = 0 then x0 else if k = 1 then x1 else x2

/-- `perm(k)`: the logical channel whose byte is sent in wire slot `k` (R87, R163). -/
def WireOrder.perm : WireOrder → Slot → Channel
  | .rgb => pick 0 1 2
  | .rbg => pick 0 2 1
  | .grb => pick 1 0 2
  | .gbr => pick 1 2 0
  | .brg => pick 2 0 1
  | .bgr => pick 2 1 0

/-- `inv(c)`: the wire slot in which logical channel `c` is sent (R87, R163). -/
def WireOrder.inv : WireOrder → Channel → Slot
  | .rgb => pick 0 1 2
  | .rbg => pick 0 2 1
  | .grb => pick 1 0 2
  | .gbr => pick 2 0 1
  | .brg => pick 1 2 0
  | .bgr => pick 2 1 0

/-! ### Scales (R141) -/

/-- `(BRIGHT * CORR[c]) div 255` on two bytes (R141). -/
def scaleValue (bright corr : Byte) : Byte := BitVec.ofNat 8 (bright.toNat * corr.toNat / 255)

/-- `scale(c)`, the scale of logical channel `c` (R141). -/
def scaleOf (r : Regs) (c : Channel) : Byte := scaleValue r.bright (r.corr.get c)

/-! ### Addresses (R162, R164, R166, R172) -/

/-- `cursor0`, the initial cursor: a reverse traversal starts at the far end (R162). -/
def cursor0 (r : Regs) : Word :=
  if r.count ≠ 0 ∧ r.advance.toInt < 0 then
    BitVec.ofInt 32 ((r.base.toNat : Int) - 3 * ((r.count.toNat : Int) - 1) * r.advance.toInt)
  else r.base

/-- The cursor one pixel further: `(cursor + 3 · sext_32(ADVANCE)) mod 2^32` (R166). -/
def nextCursor (cursor advance : Word) : Word :=
  BitVec.ofInt 32 ((cursor.toNat : Int) + 3 * advance.toInt)

/-- `addr(k)`: the byte address read for wire slot `k` of the pixel at `cursor` (R164). -/
def pixelAddr (r : Regs) (cursor : Word) (k : Slot) : Word :=
  BitVec.ofNat 32 (cursor.toNat + r.laneOff.toNat + (r.order.perm k).val)

/-- The cursor of the `i`-th pixel sent in a frame (R172). -/
def frameCursor (r : Regs) (i : Nat) : Word :=
  BitVec.ofInt 32 (((cursor0 r).toNat : Int) + 3 * r.advance.toInt * (i : Int))

/-- `ReadList` of the first `n` pixels of a frame, in the order of the reads (R172). -/
def readList (r : Regs) : Nat → List Word
  | 0 => []
  | n + 1 =>
    readList r n ++
      [ pixelAddr r (frameCursor r n) 0, pixelAddr r (frameCursor r n) 1, pixelAddr r (frameCursor r n) 2 ]

/-! ### Register words (R83, R85) -/

/-- A packed register's word: channel 0 in bits 7:0, 1 in 15:8, 2 in 23:16, bits 31:24 zero (R85). -/
def packWord (p : PerChannel) : Word := 0#8 ++ p.b ++ p.g ++ p.r

/-- The three bytes of a packed register's word; bits 31:24 are ignored (R85). -/
def unpackWord (w : Word) : PerChannel :=
  ⟨w.extractLsb' 0 8, w.extractLsb' 8 8, w.extractLsb' 16 8⟩

/-- A bit as a one-bit vector. -/
def bit (b : Bool) : BitVec 1 := BitVec.ofBool b

/-- The word `CFG` reads as (R83, R106). -/
def cfgWord (r : Regs) : Word := 0#25 ++ r.order.code ++ 0#2 ++ bit r.zlp ++ bit r.ditherEn

/-- `CFG` written with `w`: a reserved code keeps `ORDER` and still updates the one-bit fields (R83, R105). -/
def writeCfg (r : Regs) (w : Word) : Regs :=
  { r with
    ditherEn := w.getLsbD 0
    zlp := w.getLsbD 1
    order := (WireOrder.ofCode? (w.extractLsb' 4 3)).getD r.order }

end Sys2Proof.Machine
end

