-- ==== Sys2Proof/Machine/Flags.lean ====
section
/-! DEFINITION. The derived flags and the STATUS word (10_state.md R53, 30_encoding.md R84, R86,
42_pixel_traversal.md R167, 44_timing_governor.md R211). -/

namespace Sys2Proof.Machine

/-- The code of an encoder state (R86). -/
def EncState.code : EncState → BitVec 3
  | .idle => 0
  | .wait => 1
  | .highBase => 2
  | .highVar => 3
  | .low => 4
  | .done => 5

/-- Busy: `st ∈ {WAIT, HIGH_BASE, HIGH_VAR, LOW}` (R53, R86). -/
def EncState.busy : EncState → Bool
  | .idle => false
  | .wait => true
  | .highBase => true
  | .highVar => true
  | .low => true
  | .done => false

/-- The states in which the line is high: `HIGH_BASE` and `HIGH_VAR` (R86, R226). -/
def EncState.high : EncState → Bool
  | .idle => false
  | .wait => false
  | .highBase => true
  | .highVar => true
  | .low => false
  | .done => false

/-- `busy` (R53). -/
def State.busy (s : State) : Bool := s.enc.st.busy

/-- `done` (R53). -/
def State.done (s : State) : Bool := s.enc.st == .done

/-- `gap_ok = (gov_marked = 0) or (gov_elapsed ≥ WAIT_TIME)` (R53, R211). -/
def State.gapOk (s : State) : Bool := !s.gov.marked || decide (s.params.WAIT_TIME ≤ s.gov.elapsed.toNat)

/-- `Has(n)`: at least `n` pixels remain, unsigned (R167). -/
def State.hasPixels (s : State) (n : Word) : Bool := decide (n.toNat ≤ s.trav.remain.toNat)

/-- The word `STATUS` reads as (R84, R107). -/
def State.statusWord (s : State) : Word :=
  0#21 ++ s.enc.st.code ++ 0#3 ++ bit s.gov.marked ++ bit s.gapOk ++ bit s.line ++ bit s.done ++ bit s.busy

end Sys2Proof.Machine
end

