-- ==== Sys2Proof/Machine/Governor.lean ====
section
/-! DEFINITION. The Timing Governor (44_timing_governor.md). -/

namespace Sys2Proof.Machine

/-- One tick of the counter, saturating at `WAIT_TIME` (R210). -/
def tickGovernor (p : Params) (g : Governor) : Governor :=
  if g.elapsed.toNat < p.WAIT_TIME then { g with elapsed := g.elapsed + 1 } else g

/-- `n` ticks. -/
def tickTimes (p : Params) : Nat → Governor → Governor
  | 0, g => g
  | n + 1, g => tickTimes p n (tickGovernor p g)

/-- `Tick()` (R210). -/
def tick (s : State) : State := s.setGov (tickGovernor s.params s.gov)

/-- `Mark()`: the gap starts to count (R213). -/
def mark (s : State) : State := s.setGov { marked := true, elapsed := 0 }

/-- The row `Tick` (R210). -/
def execTick (s : State) : Host.Outcome State Fault Refusal := .next (tick s)

/-- The row `Wait`: whether it returns in this cycle; it writes no state. The block's own progress is held in
the WAIT state, by `stepWait` (R212, R183; log 13). -/
def execWait (s : State) : Host.Outcome State Fault Refusal := .next (s.setRet (.flag s.gapOk))

/-- The row `Mark` (R213). -/
def execMark (s : State) : Host.Outcome State Fault Refusal := .next (mark s)

end Sys2Proof.Machine
end

