-- ==== Sys2Proof/Machine/Pin.lean ====
section
/-! DEFINITION. The GPIO capability: the three operations on the line (45_gpio_capability.md). -/

namespace Sys2Proof.Machine

/-- `SetHigh()`: `line <- 1` (R221). -/
def setHigh (s : State) : State := s.setLine true

/-- `SetLow()`: `line <- 0` (R222). -/
def setLow (s : State) : State := s.setLine false

/-- `Toggle()`: `line <- 1 − line`, which no step of the encoder invokes (R223). -/
def toggle (s : State) : State := s.setLine !s.line

/-- The row `SetHigh` (R221). -/
def execSetHigh (s : State) : Host.Outcome State Fault Refusal := .next (setHigh s)

/-- The row `SetLow` (R222). -/
def execSetLow (s : State) : Host.Outcome State Fault Refusal := .next (setLow s)

/-- The row `Toggle` (R223). -/
def execToggle (s : State) : Host.Outcome State Fault Refusal := .next (toggle s)

end Sys2Proof.Machine
end

