-- ==== Sys2Proof/Machine/Adjuster.lean ====
section
/-! DEFINITION. The Channel Adjuster: scale and dither (41_channel_adjuster.md). -/

namespace Sys2Proof.Machine

/-- What `Adjust` returns: the output byte and the next accumulator value (R143). -/
structure Adjusted where
  o : Byte
  dn : Byte
deriving DecidableEq, Repr

/-- `q = p div 255`, the truncated integer value of `v·s/255` (R142). -/
def adjustQuot (v s : Byte) : Nat := v.toNat * s.toNat / 255

/-- `r = p mod 255`, the fraction lost by truncation, in 255ths (R142). -/
def adjustRem (v s : Byte) : Nat := v.toNat * s.toNat % 255

/-- `Adjust(v, s, dc, en)` (R143). -/
def adjustByte (v s dc : Byte) (en : Bool) : Adjusted :=
  if s = 0 then { o := 0, dn := dc }
  else if en = false then { o := BitVec.ofNat 8 (adjustQuot v s), dn := dc }
  else if 255 ≤ dc.toNat + adjustRem v s then
    { o := BitVec.ofNat 8 (min 255 (adjustQuot v s + 1))
      dn := BitVec.ofNat 8 (dc.toNat + adjustRem v s - 255) }
  else
    { o := BitVec.ofNat 8 (min 255 (adjustQuot v s))
      dn := BitVec.ofNat 8 (dc.toNat + adjustRem v s) }

/-- `K` consecutive adjustments of one raw byte at one scale with dither on: the sum of the outputs and the
accumulator afterwards, from accumulator `d0` (R151). -/
def adjustRun (v s d0 : Byte) : Nat → Nat × Byte
  | 0 => (0, d0)
  | k + 1 =>
    let before := adjustRun v s d0 k
    let a := adjustByte v s before.2 true
    (before.1 + a.o.toNat, a.dn)

/-- The row `Adjust`: it returns the pair and writes no state (R143; log 5). -/
def execAdjust (v sc dc : Byte) (en : Bool) (s : State) : Host.Outcome State Fault Refusal :=
  .next (s.setRet (.adjusted (adjustByte v sc dc en).o (adjustByte v sc dc en).dn))

/-- The row `Scale`: it returns `scale(c)` and writes no state (R141; log 5). -/
def execScale (c : Channel) (s : State) : Host.Outcome State Fault Refusal :=
  .next (s.setRet (.byte (scaleOf s.regs c)))

end Sys2Proof.Machine
end

