-- ==== Sys2Proof/Machine/Traversal.lean ====
section
/-! DEFINITION. The Pixel Traversal (42_pixel_traversal.md). -/

namespace Sys2Proof.Machine

/-- `min(e[c], 254)`: a bias of 255 is used as 254 (R85, R161). -/
def clampBias (e : Byte) : Byte := if e = 255 then 254 else e

/-- `Construct()` (R161). -/
def construct (s : State) : State :=
  s.setTrav
    { cursor := cursor0 s.regs
      remain := s.regs.count
      d := ⟨clampBias s.regs.bias.r, clampBias s.regs.bias.g, clampBias s.regs.bias.b⟩ }

/-- The adjustment `LoadByte(k)` makes: of the byte at `addr(k)`, by the scale and the accumulator of channel
`perm(k)` (R165). -/
def loadedByte (s : State) (k : Slot) : Adjusted :=
  adjustByte (Memory.read s.mem (pixelAddr s.regs s.trav.cursor k)) (scaleOf s.regs (s.regs.order.perm k))
    (s.trav.d.get (s.regs.order.perm k)) s.regs.ditherEn

/-- `LoadByte(k)`: fetch, adjust and load the byte for wire slot `k` of the current pixel (R165). -/
def loadByte (k : Slot) (s : State) : State :=
  ((s.setTrav { s.trav with d := s.trav.d.set (s.regs.order.perm k) (loadedByte s k).dn }).setEnc
    { s.enc with sr := (loadedByte s k).o }).logRead (pixelAddr s.regs s.trav.cursor k)

/-- `AdvancePixel()` (R166). -/
def advancePixel (s : State) : State :=
  s.setTrav
    { s.trav with
      remain := s.trav.remain - 1
      cursor := nextCursor s.trav.cursor s.regs.advance }

/-- The row `Construct` (R161). -/
def execConstruct (s : State) : Host.Outcome State Fault Refusal := .next (construct s)

/-- The row `LoadByte` (R165). -/
def execLoadByte (k : Slot) (s : State) : Host.Outcome State Fault Refusal := .next (loadByte k s)

/-- The row `AdvancePixel` (R166). -/
def execAdvancePixel (s : State) : Host.Outcome State Fault Refusal := .next (advancePixel s)

/-- The row `Has`: it returns `remain ≥ n` and writes no state (R167; log 5). -/
def execHas (n : Word) (s : State) : Host.Outcome State Fault Refusal := .next (s.setRet (.flag (s.hasPixels n)))

end Sys2Proof.Machine
end

