-- ==== Sys2Proof/Machine/Encoder.lean ====
section
/-! DEFINITION. The Bit Encoder: the boundary procedures and the step taken in each state
(43_bit_encoder.md). A step here is the encoder's transition alone; the cycle around it, with the governor's
Tick, is in Machine/Cycle.lean (R12; log 10). -/

namespace Sys2Proof.Machine

/-- `st <- HIGH_BASE ; SetHigh()`: a bit period begins (R183, R187, R188, R189). -/
def beginBit (s : State) : State := setHigh (s.goto .highBase)

/-- `st <- LOW ; SetLow()`: the low part of a bit period begins (R184, R185). -/
def beginLow (s : State) : State := setLow (s.goto .low)

/-- `EndOfBit()` (R187). -/
def endOfBit (s : State) : State := beginBit (s.setEnc { s.enc with bitn := s.enc.bitn + 1 })

/-- `EndOfByte()`: the byte of the next slot is loaded (R188). -/
def endOfByte (s : State) : State :=
  beginBit (loadByte (s.enc.slot + 1) (s.setEnc { s.enc with bitn := 0, slot := s.enc.slot + 1 }))

/-- `Finish()`: `remain` is not written (R190, conflicts C10 and C12). -/
def finish (s : State) : State := mark (setLow (s.setEnc { s.enc with st := .done, ph := 0 }))

/-- `EndOfPixel()`: the next pixel's first byte is read at the advanced cursor (R189). -/
def endOfPixel (s : State) : State :=
  let s' := advancePixel (s.setEnc { s.enc with bitn := 0, slot := 0 })
  if s.trav.remain - 1 = 0 then finish s' else beginBit (loadByte 0 s')

/-- The step in `IDLE` and in `DONE`: nothing (R182). -/
def stepResting (s : State) : State := s

/-- The step in `WAIT`, with `gap` the value of `gap_ok` during the cycle, before its Tick (R183). -/
def stepWait (gap : Bool) (s : State) : State :=
  if gap then
    if s.trav.remain = 0 then finish s
    else
      let s' := loadByte 0 s
      beginBit (s'.setEnc { s'.enc with ph := 0 })
  else s

/-- The step in `HIGH_BASE`: at the end of the phase the bit is tested (R184). -/
def stepHighBase (s : State) : State :=
  if s.enc.ph.toNat < s.params.T1 - 1 then s.nextPhase
  else
    let s' := s.setEnc { s.enc with cb := s.enc.sr.getLsbD 7, sr := s.enc.sr <<< 1, ph := 0 }
    if s.enc.sr.getLsbD 7 = true ∧ 1 ≤ s.params.T2 then s'.goto .highVar else beginLow s'

/-- The step in `HIGH_VAR` (R185). -/
def stepHighVar (s : State) : State :=
  if s.enc.ph.toNat < s.params.T2 - 1 then s.nextPhase
  else beginLow (s.setEnc { s.enc with ph := 0 })

/-- `lowlen`: the length of the low part of a bit period (R186). -/
def lowLen (p : Params) (cb : Bool) : Nat := if cb then p.T3 else p.T2 + p.T3

/-- The step in `LOW` (R186). -/
def stepLow (s : State) : State :=
  if s.enc.ph.toNat < lowLen s.params s.enc.cb - 1 then s.nextPhase
  else
    let s' := s.setEnc { s.enc with ph := 0 }
    if s.enc.bitn.toNat < 7 then endOfBit s'
    else if s.enc.slot.val < 2 then endOfByte s'
    else endOfPixel s'

/-- The row `STEP.IDLE` (R182). -/
def execStepIdle (s : State) : Host.Outcome State Fault Refusal := .next (stepResting s)

/-- The row `STEP.WAIT` (R183). -/
def execStepWait (s : State) : Host.Outcome State Fault Refusal := .next (stepWait s.gapOk s)

/-- The row `STEP.HIGH_BASE` (R184). -/
def execStepHighBase (s : State) : Host.Outcome State Fault Refusal := .next (stepHighBase s)

/-- The row `STEP.HIGH_VAR` (R185). -/
def execStepHighVar (s : State) : Host.Outcome State Fault Refusal := .next (stepHighVar s)

/-- The row `STEP.LOW` (R186). -/
def execStepLow (s : State) : Host.Outcome State Fault Refusal := .next (stepLow s)

/-- The row `STEP.DONE` (R182). -/
def execStepDone (s : State) : Host.Outcome State Fault Refusal := .next (stepResting s)

/-- The row `EndOfBit` (R187). -/
def execEndOfBit (s : State) : Host.Outcome State Fault Refusal := .next (endOfBit s)

/-- The row `EndOfByte` (R188). -/
def execEndOfByte (s : State) : Host.Outcome State Fault Refusal := .next (endOfByte s)

/-- The row `EndOfPixel` (R189). -/
def execEndOfPixel (s : State) : Host.Outcome State Fault Refusal := .next (endOfPixel s)

/-- The row `Finish` (R190). -/
def execFinish (s : State) : Host.Outcome State Fault Refusal := .next (finish s)

end Sys2Proof.Machine
end

