-- ==== Sys2Proof/Machine/Cycle.lean ====
section
/-! DEFINITION. One cycle of the machine (00_scope.md R12, 60_exceptions.md R236): the host's read is answered
from the state during the cycle, then Tick, then the encoder's step, then the host's write if it was accepted
on the state during the cycle (40_host_operations.md R100, R101). -/

namespace Sys2Proof.Machine

/-- The encoder's step in the state it is in (R40, R182 to R186). -/
def encoderStep (gap : Bool) (s : State) : State :=
  match s.enc.st with
  | .idle => stepResting s
  | .wait => stepWait gap s
  | .highBase => stepHighBase s
  | .highVar => stepHighVar s
  | .low => stepLow s
  | .done => stepResting s

/-- The block's step: Tick, then the encoder's step; `gap_ok` is that of the state during the cycle (R12,
R183, R210). -/
def blockStep (s : State) : State := encoderStep s.gapOk (tick s)

/-- A cycle in which the host presents no operation, or one without effect: the block's step, with the level
of the cycle recorded (R13, R127). -/
def cycle (s : State) : State := ((blockStep s).logLevels [s.line]).setRdata none

/-- A cycle with a read answered by `w`, a value of the state during the cycle (R100). -/
def readCycle (w : Word) (s : State) : State := (cycle s).setRdata (some w)

/-- A cycle with a write whose effect is `f`: accepted exactly when `st ∈ {IDLE, DONE}` during the cycle, and
applied after the block's step; dropped otherwise (R12, R101). -/
def writeCycle (f : State → State) (s : State) : State := if s.busy then cycle s else f (cycle s)

/-- A write of the configuration registers. -/
def writeRegs (f : Regs → Regs) (s : State) : State := s.setRegs (f s.regs)

/-- An accepted START (R102). -/
def startFrame (s : State) : State :=
  let st : EncState := if s.regs.count = 0 ∧ s.regs.zlp = false then .done else .wait
  (construct s).setEnc { st := st, ph := 0, bitn := 0, slot := 0, sr := 0, cb := false }

end Sys2Proof.Machine
end

