-- ==== Sys2Proof/Machine/HostReads.lean ====
section
/-! DEFINITION. The reads on the register port and the cycles without an effect of the host
(40_host_operations.md). -/

namespace Sys2Proof.Machine

/-- The row `NOP`: no operation; the block takes its step (R127). -/
def execNop (s : State) : Host.Outcome State Fault Refusal := .next (cycle s)

/-- The row `RD.CMD` (R104). -/
def execRdCmd (s : State) : Host.Outcome State Fault Refusal := .next (readCycle 0 s)

/-- The row `RD.CFG` (R106). -/
def execRdCfg (s : State) : Host.Outcome State Fault Refusal := .next (readCycle (cfgWord s.regs) s)

/-- The row `RD.STATUS` (R107). -/
def execRdStatus (s : State) : Host.Outcome State Fault Refusal := .next (readCycle s.statusWord s)

/-- The row `RD.BASE` (R110). -/
def execRdBase (s : State) : Host.Outcome State Fault Refusal := .next (readCycle s.regs.base s)

/-- The row `RD.COUNT` (R112). -/
def execRdCount (s : State) : Host.Outcome State Fault Refusal := .next (readCycle s.regs.count s)

/-- The row `RD.ADVANCE` (R114). -/
def execRdAdvance (s : State) : Host.Outcome State Fault Refusal := .next (readCycle s.regs.advance s)

/-- The row `RD.LANE_OFF` (R116). -/
def execRdLaneOff (s : State) : Host.Outcome State Fault Refusal := .next (readCycle s.regs.laneOff s)

/-- The row `RD.BRIGHT` (R118). -/
def execRdBright (s : State) : Host.Outcome State Fault Refusal := .next (readCycle (s.regs.bright.setWidth 32) s)

/-- The row `RD.CORR` (R120). -/
def execRdCorr (s : State) : Host.Outcome State Fault Refusal := .next (readCycle (packWord s.regs.corr) s)

/-- The row `RD.BIAS` (R122). -/
def execRdBias (s : State) : Host.Outcome State Fault Refusal := .next (readCycle (packWord s.regs.bias) s)

/-- The row `RD.DSTATE` (R123). -/
def execRdDstate (s : State) : Host.Outcome State Fault Refusal := .next (readCycle (packWord s.trav.d) s)

/-- The row `RD.REMAIN` (R124). -/
def execRdRemain (s : State) : Host.Outcome State Fault Refusal := .next (readCycle s.trav.remain s)

/-- The row `RD.CURSOR` (R125). -/
def execRdCursor (s : State) : Host.Outcome State Fault Refusal := .next (readCycle s.trav.cursor s)

/-- The row `RD.RSVD.34`: it returns 0 (R126). -/
def execRdRsvd34 (s : State) : Host.Outcome State Fault Refusal := .next (readCycle 0 s)

/-- The row `RD.RSVD.38_3C`: it returns 0 (R126). -/
def execRdRsvd38 (_off : Offset) (s : State) : Host.Outcome State Fault Refusal := .next (readCycle 0 s)

/-- The row `RD.MISAL.ODD`: it returns 0 (R126). -/
def execRdMisalOdd (_off : Offset) (s : State) : Host.Outcome State Fault Refusal := .next (readCycle 0 s)

/-- The row `RD.MISAL.2`: it returns 0 (R126). -/
def execRdMisal2 (_off : Offset) (s : State) : Host.Outcome State Fault Refusal := .next (readCycle 0 s)

end Sys2Proof.Machine
end

