-- ==== Sys2Proof/Machine/HostWrites.lean ====
section
/-! DEFINITION. The writes on the register port (40_host_operations.md): accepted while the block rests,
dropped while it is busy (R101), or ignored in every state (R103, R108, R126). -/

namespace Sys2Proof.Machine

/-- The row `WR.CMD.START`: begin a frame (R102). -/
def execWrCmdStart (_wdata : Word) (s : State) : Host.Outcome State Fault Refusal :=
  .next (writeCycle startFrame s)

/-- The row `WR.CFG` (R105). -/
def execWrCfg (wdata : Word) (s : State) : Host.Outcome State Fault Refusal :=
  .next (writeCycle (writeRegs fun r => writeCfg r wdata) s)

/-- The row `WR.BASE` (R109). -/
def execWrBase (wdata : Word) (s : State) : Host.Outcome State Fault Refusal :=
  .next (writeCycle (writeRegs fun r => { r with base := wdata }) s)

/-- The row `WR.COUNT` (R111). -/
def execWrCount (wdata : Word) (s : State) : Host.Outcome State Fault Refusal :=
  .next (writeCycle (writeRegs fun r => { r with count := wdata }) s)

/-- The row `WR.ADVANCE` (R113). -/
def execWrAdvance (wdata : Word) (s : State) : Host.Outcome State Fault Refusal :=
  .next (writeCycle (writeRegs fun r => { r with advance := wdata }) s)

/-- The row `WR.LANE_OFF` (R115). -/
def execWrLaneOff (wdata : Word) (s : State) : Host.Outcome State Fault Refusal :=
  .next (writeCycle (writeRegs fun r => { r with laneOff := wdata }) s)

/-- The row `WR.BRIGHT` (R117). -/
def execWrBright (wdata : Word) (s : State) : Host.Outcome State Fault Refusal :=
  .next (writeCycle (writeRegs fun r => { r with bright := wdata.extractLsb' 0 8 }) s)

/-- The row `WR.CORR` (R119). -/
def execWrCorr (wdata : Word) (s : State) : Host.Outcome State Fault Refusal :=
  .next (writeCycle (writeRegs fun r => { r with corr := unpackWord wdata }) s)

/-- The row `WR.BIAS` (R121). -/
def execWrBias (wdata : Word) (s : State) : Host.Outcome State Fault Refusal :=
  .next (writeCycle (writeRegs fun r => { r with bias := unpackWord wdata }) s)

/-- The row `WR.CMD.NONE`: bit 0 clear, no state changes (R103). -/
def execWrCmdNone (_wdata : Word) (s : State) : Host.Outcome State Fault Refusal := .next (cycle s)

/-- The row `WR.STATUS`: a read-only register, the write is ignored in every state (R108). -/
def execWrStatus (_wdata : Word) (s : State) : Host.Outcome State Fault Refusal := .next (cycle s)

/-- The row `WR.DSTATE`: a read-only register, the write is ignored in every state (R108). -/
def execWrDstate (_wdata : Word) (s : State) : Host.Outcome State Fault Refusal := .next (cycle s)

/-- The row `WR.REMAIN`: a read-only register, the write is ignored in every state (R108). -/
def execWrRemain (_wdata : Word) (s : State) : Host.Outcome State Fault Refusal := .next (cycle s)

/-- The row `WR.CURSOR`: a read-only register, the write is ignored in every state (R108). -/
def execWrCursor (_wdata : Word) (s : State) : Host.Outcome State Fault Refusal := .next (cycle s)

/-- The row `WR.RSVD.34`: it does nothing (R126). -/
def execWrRsvd34 (_wdata : Word) (s : State) : Host.Outcome State Fault Refusal := .next (cycle s)

/-- The row `WR.RSVD.38_3C`: it does nothing (R126). -/
def execWrRsvd38 (_off : Offset) (_wdata : Word) (s : State) : Host.Outcome State Fault Refusal := .next (cycle s)

/-- The row `WR.MISAL.ODD`: it does nothing (R126). -/
def execWrMisalOdd (_off : Offset) (_wdata : Word) (s : State) : Host.Outcome State Fault Refusal := .next (cycle s)

/-- The row `WR.MISAL.2`: it does nothing (R126). -/
def execWrMisal2 (_off : Offset) (_wdata : Word) (s : State) : Host.Outcome State Fault Refusal := .next (cycle s)

end Sys2Proof.Machine
end

