-- ==== Sys2Proof/Machine/Pseudo.lean ====
section
/-! DEFINITION. The pseudo-operations of host programs (30_encoding.md R92, 40_host_operations.md R128 to
R130). Each runs the first cycle of its expansion; the lines that are left go to the head of the host's coming
cycles (log 14). -/

namespace Sys2Proof.Machine

/-- The host cycle that presents one transaction word. -/
def wordCycle (w : Transaction) : HostCycle := ⟨[], .word w⟩

/-- The line `poll` as a host cycle. -/
def pollCycle : HostCycle := ⟨[], .poll⟩

/-- Put lines at the head of the host's coming cycles. -/
def State.pushHost (s : State) (l : List HostCycle) : State := s.setHost (l ++ s.host)

/-- The row `start`: `wr CMD, 1` (R92). -/
def execPseudoStart (s : State) : Host.Outcome State Fault Refusal := .next (writeCycle startFrame s)

/-- The row `poll`: `rd STATUS`, and again while bit 0 of the word read is set (R92, R130). -/
def execPseudoPoll (s : State) : Host.Outcome State Fault Refusal :=
  let s' := readCycle s.statusWord s
  .next (if s.statusWord.getLsbD 0 then s'.pushHost [pollCycle] else s')

/-- The row `has`: `rd REMAIN`, then the host's comparison `rdata ≥ n` (R92, R129). -/
def execPseudoHas (n : Word) (s : State) : Host.Outcome State Fault Refusal :=
  .next ((readCycle s.trav.remain s).setRet (.flag (decide (n.toNat ≤ s.trav.remain.toNat))))

/-- The row `show`: `wr BASE, base`; `wr COUNT, n`; `wr CMD, 1`; `poll` (R92, R128). -/
def execPseudoShow (base n : Word) (s : State) : Host.Outcome State Fault Refusal :=
  .next ((writeCycle (writeRegs fun r => { r with base := base }) s).pushHost
    [wordCycle (htWord true 0x10 n), wordCycle (htWord true 0x00 1), pollCycle])

end Sys2Proof.Machine
end

