-- ==== Sys2Proof/Machine/Wire.lean ====
section
/-! DEFINITION. The wire encoding: the symbols BIT0 and BIT1, bytes, and the pulse-duration sequence
(30_encoding.md R89, R90; 43_bit_encoder.md R196). -/

namespace Sys2Proof.Machine

/-- The high cycles of the symbol of a bit: `T1`, or `T1 + T2` for a 1 (R89). -/
def highCycles (p : Params) (b : Bool) : Nat := if b then p.T1 + p.T2 else p.T1

/-- The low cycles of the symbol of a bit: `T2 + T3`, or `T3` for a 1 (R89). -/
def lowCycles (p : Params) (b : Bool) : Nat := if b then p.T3 else p.T2 + p.T3

/-- The levels of one bit period, in the order of the cycles (R89, R191). -/
def bitLevels (p : Params) (b : Bool) : List Bool :=
  List.replicate (highCycles p b) true ++ List.replicate (lowCycles p b) false

/-- The bits of a byte in wire order, most significant first (R90). -/
def byteBits (o : Byte) : List Bool :=
  [o.getLsbD 7, o.getLsbD 6, o.getLsbD 5, o.getLsbD 4, o.getLsbD 3, o.getLsbD 2, o.getLsbD 1, o.getLsbD 0]

/-- The levels of eight bit periods back to back (R90, R192). -/
def byteLevels (p : Params) (o : Byte) : List Bool := ((byteBits o).map (bitLevels p)).flatten

/-- The levels of a list of bytes back to back (R90, R195). -/
def bytesLevels (p : Params) (l : List Byte) : List Bool := (l.map (byteLevels p)).flatten

/-- `PulseSeq(B)`: the pairs (high cycles, low cycles) of a list of bytes (R196). -/
def pulseSeq (p : Params) (l : List Byte) : List (Nat × Nat) :=
  (l.map fun o => (byteBits o).map fun b => (highCycles p b, lowCycles p b)).flatten

/-- A pulse-duration sequence written out as runs of 1 and 0 (R196). -/
def pulseLevels (l : List (Nat × Nat)) : List Bool :=
  (l.map fun x => List.replicate x.1 true ++ List.replicate x.2 false).flatten

/-- One bit period on the pin: the levels of the symbol in `TB` cycles, in each of which the governor ticks
(R89, R210); the line is left low (log 12). -/
def sendSymbol (b : Bool) (s : State) : State :=
  setLow ((s.logLevels (bitLevels s.params b).reverse).setGov (tickTimes s.params s.params.TB s.gov))

/-- The row `BIT0` (R89). -/
def execBit0 (s : State) : Host.Outcome State Fault Refusal := .next (sendSymbol false s)

/-- The row `BIT1` (R89). -/
def execBit1 (s : State) : Host.Outcome State Fault Refusal := .next (sendSymbol true s)

end Sys2Proof.Machine
end

