-- ==== Sys2Proof/Machine/Dispatch.lean ====
section
/-! DEFINITION. The one match from operations to their meanings. -/

namespace Sys2Proof.Machine

def exec (i : Instr) (s : State) : Host.Outcome State Fault Refusal :=
  match i with
  | .nop => Sys2Proof.Machine.execNop s
  | .rdCmd => Sys2Proof.Machine.execRdCmd s
  | .rdCfg => Sys2Proof.Machine.execRdCfg s
  | .rdStatus => Sys2Proof.Machine.execRdStatus s
  | .rdBase => Sys2Proof.Machine.execRdBase s
  | .rdCount => Sys2Proof.Machine.execRdCount s
  | .rdAdvance => Sys2Proof.Machine.execRdAdvance s
  | .rdLaneOff => Sys2Proof.Machine.execRdLaneOff s
  | .rdBright => Sys2Proof.Machine.execRdBright s
  | .rdCorr => Sys2Proof.Machine.execRdCorr s
  | .rdBias => Sys2Proof.Machine.execRdBias s
  | .rdDstate => Sys2Proof.Machine.execRdDstate s
  | .rdRemain => Sys2Proof.Machine.execRdRemain s
  | .rdCursor => Sys2Proof.Machine.execRdCursor s
  | .wrCmdStart wdata => Sys2Proof.Machine.execWrCmdStart wdata s
  | .wrCmdNone wdata => Sys2Proof.Machine.execWrCmdNone wdata s
  | .wrCfg wdata => Sys2Proof.Machine.execWrCfg wdata s
  | .wrStatus wdata => Sys2Proof.Machine.execWrStatus wdata s
  | .wrBase wdata => Sys2Proof.Machine.execWrBase wdata s
  | .wrCount wdata => Sys2Proof.Machine.execWrCount wdata s
  | .wrAdvance wdata => Sys2Proof.Machine.execWrAdvance wdata s
  | .wrLaneOff wdata => Sys2Proof.Machine.execWrLaneOff wdata s
  | .wrBright wdata => Sys2Proof.Machine.execWrBright wdata s
  | .wrCorr wdata => Sys2Proof.Machine.execWrCorr wdata s
  | .wrBias wdata => Sys2Proof.Machine.execWrBias wdata s
  | .wrDstate wdata => Sys2Proof.Machine.execWrDstate wdata s
  | .wrRemain wdata => Sys2Proof.Machine.execWrRemain wdata s
  | .wrCursor wdata => Sys2Proof.Machine.execWrCursor wdata s
  | .rdRsvd34 => Sys2Proof.Machine.execRdRsvd34 s
  | .rdRsvd38 off => Sys2Proof.Machine.execRdRsvd38 off s
  | .rdMisalOdd off => Sys2Proof.Machine.execRdMisalOdd off s
  | .rdMisal2 off => Sys2Proof.Machine.execRdMisal2 off s
  | .wrRsvd34 wdata => Sys2Proof.Machine.execWrRsvd34 wdata s
  | .wrRsvd38 off wdata => Sys2Proof.Machine.execWrRsvd38 off wdata s
  | .wrMisalOdd off wdata => Sys2Proof.Machine.execWrMisalOdd off wdata s
  | .wrMisal2 off wdata => Sys2Proof.Machine.execWrMisal2 off wdata s
  | .stepIdle => Sys2Proof.Machine.execStepIdle s
  | .stepWait => Sys2Proof.Machine.execStepWait s
  | .stepHighBase => Sys2Proof.Machine.execStepHighBase s
  | .stepHighVar => Sys2Proof.Machine.execStepHighVar s
  | .stepLow => Sys2Proof.Machine.execStepLow s
  | .stepDone => Sys2Proof.Machine.execStepDone s
  | .bit0 => Sys2Proof.Machine.execBit0 s
  | .bit1 => Sys2Proof.Machine.execBit1 s
  | .adjust v sc dc en => Sys2Proof.Machine.execAdjust v sc dc en s
  | .scale c => Sys2Proof.Machine.execScale c s
  | .construct => Sys2Proof.Machine.execConstruct s
  | .loadByte k => Sys2Proof.Machine.execLoadByte k s
  | .advancePixel => Sys2Proof.Machine.execAdvancePixel s
  | .has n => Sys2Proof.Machine.execHas n s
  | .endOfBit => Sys2Proof.Machine.execEndOfBit s
  | .endOfByte => Sys2Proof.Machine.execEndOfByte s
  | .endOfPixel => Sys2Proof.Machine.execEndOfPixel s
  | .finish => Sys2Proof.Machine.execFinish s
  | .tick => Sys2Proof.Machine.execTick s
  | .wait => Sys2Proof.Machine.execWait s
  | .mark => Sys2Proof.Machine.execMark s
  | .setHigh => Sys2Proof.Machine.execSetHigh s
  | .setLow => Sys2Proof.Machine.execSetLow s
  | .toggle => Sys2Proof.Machine.execToggle s
  | .pseudoStart => Sys2Proof.Machine.execPseudoStart s
  | .pseudoPoll => Sys2Proof.Machine.execPseudoPoll s
  | .pseudoHas n => Sys2Proof.Machine.execPseudoHas n s
  | .pseudoShow base n => Sys2Proof.Machine.execPseudoShow base n s

end Sys2Proof.Machine
end

