-- ==== Sys2Proof/Machine/Fetch.lean ====
section
/-! DEFINITION. Where the machine's next operation comes from: the host's next cycle for a transaction word
(30_encoding.md R80), the state register for an encoder step (10_state.md R40). -/

namespace Sys2Proof.Machine

/-- The state in which the host's next cycle is run: its stores have landed, and it is taken off the list
(R70, R71; log 7). -/
def fetched (s : State) : State :=
  match s.host with
  | [] => s
  | c :: rest => (s.setMem (Memory.writeAll s.mem c.stores)).setHost rest

/-- The operation a host input stands for; the reset input stands for none (R92, R93, R250). -/
def HostInput.instr? : HostInput → Option Instr
  | .word ht => some (decodeTransaction ht)
  | .start => some .pseudoStart
  | .poll => some .pseudoPoll
  | .has n => some (.pseudoHas n)
  | .showFrame base n => some (.pseudoShow base n)
  | .reset => none

/-- The encoder state whose step an operation is (R86, R94). -/
def stateOfStep : Instr → Option EncState
  | .stepIdle => some .idle
  | .stepWait => some .wait
  | .stepHighBase => some .highBase
  | .stepHighVar => some .highVar
  | .stepLow => some .low
  | .stepDone => some .done
  | _ => none

/-- The encoder at the first cycle of a bit period that sends `b`. -/
def atBit (s : State) (b : Bool) : State :=
  beginBit (s.setEnc { s.enc with ph := 0, bitn := 0, sr := if b then 0x80 else 0 })

/-- What `withFetchWord` does (log 4, log 15). -/
def placeTableWord (s : State) (nbits w : Nat) : State :=
  match decodeTableWord nbits w with
  | none => s
  | some .bit0 => (atBit s false).pushHost [wordCycle 0]
  | some .bit1 => (atBit s true).pushHost [wordCycle 0]
  | some i =>
    match stateOfStep i with
    | some st => (s.goto st).pushHost [wordCycle 0]
    | none => s.pushHost [wordCycle (BitVec.ofNat 40 w)]

end Sys2Proof.Machine
end

