-- ==== Sys2Proof/Machine/Step.lean ====
section
/-! DEFINITION. One step of the machine: one clock cycle with the host's next input (00_scope.md R11, R12). -/

namespace Sys2Proof.Machine

/-- One cycle. With no host cycle left, no operation is presented (R80, R127; log 3). Otherwise the stores of
the host's next cycle land (log 7), and its input is run, or the reset input takes the cycle (log 8). -/
def step (s : State) : Host.Outcome State Fault Refusal :=
  match s.host with
  | [] => exec .nop s
  | c :: _ =>
    match c.input.instr? with
    | some i => exec i (fetched s)
    | none => .next (fetched s).resetCycle

/-- `s` with an instruction of the opcode table stored where `step` takes its next one from (log 4, log 15):
a transaction word is the host's next cycle; a state code is the encoder's state, in a cycle without a host
operation; a wire pattern is the bit the encoder is about to send, in a cycle without a host operation. -/
def State.withFetchWord (s : State) (nbits w : Nat) : State := placeTableWord s nbits w

end Sys2Proof.Machine
end

