-- ==== Sys2Proof/Safety.lean ====
section
/-! DEFINITION. The terms claims use: a run, the invariants of 10_state.md R55 and of the sequencing state, what a
frame sends, and what the host can see of the block. -/

namespace Sys2Proof.Machine

/-- `n` cycles, stopping at the first fault or refusal. -/
def steps : Nat → State → Host.Outcome State Fault Refusal
  | 0, s => .next s
  | n + 1, s =>
    match step s with
    | .next t => steps n t
    | .fault r => .fault r
    | .refused r => .refused r

/-- A safe state: its next cycle answers a state. -/
def Safe (s : State) : Prop := ∃ t, step s = .next t

/-! ### Invariants -/

/-- The states that send a bit: `HIGH_BASE`, `HIGH_VAR`, `LOW`. -/
def EncState.sending : EncState → Bool
  | .idle => false
  | .wait => false
  | .highBase => true
  | .highVar => true
  | .low => true
  | .done => false

/-- The invariants of R55, (a) to (h), with the canonical form of the memory list (log 2). -/
abbrev Inv (s : State) : Prop :=
  (s.enc.slot.val ≤ 2 ∧ s.enc.bitn.toNat ≤ 7) ∧
  (s.trav.d.r.toNat ≤ 254 ∧ s.trav.d.g.toNat ≤ 254 ∧ s.trav.d.b.toNat ≤ 254) ∧
  s.regs.order.code.toNat ≤ 5 ∧
  s.line = s.enc.st.high ∧
  s.gov.elapsed.toNat ≤ s.params.WAIT_TIME ∧
  (s.enc.st.sending = true → 1 ≤ s.trav.remain.toNat) ∧
  (s.enc.st = .done → s.trav.remain = 0) ∧
  (s.enc.st.sending = false → s.enc.ph = 0) ∧
  Memory.wf s.mem = true

/-- Where the encoder is: the phase counter is inside its phase (R42), `HIGH_VAR` is entered for a 1 bit only
(R185), the untested bits of the shift register are left-aligned (R45) and it is empty outside a frame (R190), and
while a frame runs the cursor and the remaining count are those of the pixel being sent (R166, R168). -/
abbrev InSequence (s : State) : Prop :=
  (s.enc.st = .highBase → s.enc.ph.toNat < s.params.T1 ∧ s.enc.sr.toNat % 2 ^ s.enc.bitn.toNat = 0) ∧
  (s.enc.st = .highVar → s.enc.ph.toNat < s.params.T2 ∧ s.enc.cb = true) ∧
  (s.enc.st = .low → s.enc.ph.toNat < lowCycles s.params s.enc.cb) ∧
  (s.enc.st = .highVar ∨ s.enc.st = .low → s.enc.sr.toNat % 2 ^ (s.enc.bitn.toNat + 1) = 0) ∧
  (s.enc.st.sending = false → s.enc.bitn = 0 ∧ s.enc.slot = 0 ∧ s.enc.sr = 0) ∧
  (s.enc.st = .wait → s.trav.remain = s.regs.count ∧ (s.regs.count = 0 → s.regs.zlp = true)) ∧
  (s.busy = true →
    s.trav.remain.toNat ≤ s.regs.count.toNat ∧
    s.trav.cursor = frameCursor s.regs (s.regs.count.toNat - s.trav.remain.toNat))

/-! ### The host's inputs -/

/-- A host cycle that keeps the contract of a frame: the pixel memory is not written (R256) and reset is not
asserted (R252). Whatever it presents on the port is allowed. -/
abbrev HostCycle.keepsContract (c : HostCycle) : Prop := c.stores = [] ∧ c.input ≠ .reset

/-- A host cycle without effect on the block: no store, and `NOP` or a read. -/
abbrev HostCycle.passive (c : HostCycle) : Prop :=
  c.stores = [] ∧ ∃ w : Transaction, c.input = .word w ∧ (htValid w = false ∨ htWe w = false)

/-- The state less what the host presents and is answered: everything else of the machine. -/
def hideHost (s : State) : State := { s with host := [], rdata := none, ret := none }

/-! ### What a frame sends (R165, R172, R195) -/

/-- The adjustment of the byte of wire slot `k` of the pixel at `cursor`, with accumulators `d` (R165). -/
def slotAdjusted (r : Regs) (m : List Host.Cell) (cursor : Word) (d : PerChannel) (k : Slot) : Adjusted :=
  adjustByte (Memory.read m (pixelAddr r cursor k)) (scaleOf r (r.order.perm k)) (d.get (r.order.perm k)) r.ditherEn

/-- The accumulators after slot `k` of the pixel at `cursor` (R165). -/
def slotAccu (r : Regs) (m : List Host.Cell) (cursor : Word) (d : PerChannel) (k : Slot) : PerChannel :=
  d.set (r.order.perm k) (slotAdjusted r m cursor d k).dn

/-- The accumulators after the first `n` pixels of a frame (R161, R165). -/
def frameAccu (r : Regs) (m : List Host.Cell) : Nat → PerChannel
  | 0 => ⟨clampBias r.bias.r, clampBias r.bias.g, clampBias r.bias.b⟩
  | n + 1 =>
    let c := frameCursor r n
    slotAccu r m c (slotAccu r m c (slotAccu r m c (frameAccu r m n) 0) 1) 2

/-- The adjusted bytes of the first `n` pixels of a frame, in the order of the read list (R172, R195). -/
def frameBytes (r : Regs) (m : List Host.Cell) : Nat → List Byte
  | 0 => []
  | n + 1 =>
    let c := frameCursor r n
    let d0 := frameAccu r m n
    let d1 := slotAccu r m c d0 0
    let d2 := slotAccu r m c d1 1
    frameBytes r m n ++
      [(slotAdjusted r m c d0 0).o, (slotAdjusted r m c d1 1).o, (slotAdjusted r m c d2 2).o]

/-- How many cycles the block spends in WAIT when a START is accepted in state `s` (R193, R216). -/
def waitCycles (s : State) : Nat :=
  if s.gov.marked then max 1 (s.params.WAIT_TIME - s.gov.elapsed.toNat) else 1

end Sys2Proof.Machine
end

