-- ==== Sys2Proof/Certificates/Slice0/Obligations.lean ====
section
/-! DEFINITION. The statements for the provers. Each docstring names the rule of spec/ it formalises. -/

namespace Sys2Proof.Claims

open Sys2Proof.Machine

/-- The state step of an encoder state (R94). -/
def stepOp : EncState → Instr
  | .idle => .stepIdle
  | .wait => .stepWait
  | .highBase => .stepHighBase
  | .highVar => .stepHighVar
  | .low => .stepLow
  | .done => .stepDone

/-- `st ∈ {IDLE, DONE}` (R101). -/
abbrev Resting (s : State) : Prop := s.enc.st = .idle ∨ s.enc.st = .done

/-- `gap_ok` (R211). -/
abbrev GapHolds (s : State) : Prop := s.gov.marked = false ∨ s.params.WAIT_TIME ≤ s.gov.elapsed.toNat

/-- The counter after `Tick` (R210). -/
def ticked (s : State) : Word := if s.gov.elapsed.toNat < s.params.WAIT_TIME then s.gov.elapsed + 1 else s.gov.elapsed

/-- `min(e[c], 254)` (R161). -/
def clamped (e : Byte) : Byte := BitVec.ofNat 8 (min e.toNat 254)

/-- `cursor0` (R162). -/
def firstCursor (r : Regs) : Word :=
  if r.count ≠ 0 ∧ r.advance.toInt < 0 then
    BitVec.ofInt 32 ((r.base.toNat : Int) - 3 * ((r.count.toNat : Int) - 1) * r.advance.toInt)
  else r.base

/-- The traversal state `Construct` leaves (R161). -/
def constructed (r : Regs) : Traversal :=
  { cursor := firstCursor r, remain := r.count, d := ⟨clamped r.bias.r, clamped r.bias.g, clamped r.bias.b⟩ }

/-- The encoder state an accepted START leaves (R102). -/
def started (r : Regs) : Encoder :=
  { st := if r.count = 0 ∧ r.zlp = false then .done else .wait
    ph := 0, bitn := 0, slot := 0, sr := 0, cb := false }

/-- The answer of a read: the cycle of `NOP` with `rdata` set, for the read rows (R100). -/
def Answers (i : Instr) (s : State) (w : Word) : Prop :=
  ∃ u, exec .nop s = .next u ∧ exec i s = .next { u with rdata := some w }

/-- A write accepted while resting and dropped while busy, with effect `f` on the configuration registers
(R101). -/
def WritesRegs (i : Instr) (s : State) (f : Regs → Regs) : Prop :=
  ∃ u, exec .nop s = .next u ∧
    exec i s = .next (if Resting s then { u with regs := f u.regs } else u)

/-- Every word with `valid = 1`, `we = 0` and `off = o`, whatever its ignored data, is the operation `i` (R80). -/
def ReadAt (o : Offset) (i : Instr) : Prop := ∀ d : Word, decodeTransaction (0b10#2 ++ o ++ d) = i

/-- The word with `valid = 1`, `we = 1`, `off = o` and `wdata = d` is the operation `i` (R80). -/
def WriteAt (o : Offset) (d : Word) (i : Instr) : Prop := decodeTransaction (0b11#2 ++ o ++ d) = i

/-- A row of the host's operations: one with a transaction word. -/
def isHost (i : Instr) : Bool :=
  match encode i with
  | some (.ht, _) => true
  | _ => false

end Sys2Proof.Claims

open Sys2Proof Sys2Proof.Machine Sys2Proof.Claims

/-! ### Decoding and the cycle -/

/-- A step runs the operation the host presents: with no host cycle left none is presented; a transaction word
runs what it decodes to, which is well formed, and a program line its pseudo-operation, in the state in which the
host cycle's stores have landed and the cycle is taken off the list (R80, R92, R100; logs 3 and 7). -/
def Obligations.StepRunsTheDecodedOperation : Prop :=
  ∀ s : State,
    (s.host = [] → step s = exec .nop s) ∧
    ∀ st rest, ∀ u : State, u = { s with host := rest, mem := Memory.writeAll s.mem st } →
      (∀ ht i, s.host = ⟨st, .word ht⟩ :: rest → decode .ht ht.toNat = .ok i →
        i.wellFormed = true ∧ step s = exec i u) ∧
      (s.host = ⟨st, .start⟩ :: rest → step s = exec .pseudoStart u) ∧
      (s.host = ⟨st, .poll⟩ :: rest → step s = exec .pseudoPoll u) ∧
      (∀ n, s.host = ⟨st, .has n⟩ :: rest → step s = exec (.pseudoHas n) u) ∧
      (∀ b n, s.host = ⟨st, .showFrame b n⟩ :: rest → step s = exec (.pseudoShow b n) u)

/-- Words written out from the encodings of 30_encoding.md, with the operations they stand for: one or more of
each family, the edges of the offset range among them. -/
def Obligations.WrittenWordsDecode : Prop :=
  decode .ht 0x0000000000 = .ok .nop ∧
  decode .ht 0x7FFFFFFFFF = .ok .nop ∧
  decode .ht 0x8800000000 = .ok .rdStatus ∧
  decode .ht 0xB000000000 = .ok .rdCursor ∧
  decode .ht 0xB400000000 = .ok .rdRsvd34 ∧
  decode .ht 0xBC00000000 = .ok (.rdRsvd38 0x3C) ∧
  decode .ht 0x8500000000 = .ok (.rdMisalOdd 0x05) ∧
  decode .ht 0x8200000000 = .ok (.rdMisal2 0x02) ∧
  decode .ht 0xC000000001 = .ok (.wrCmdStart 1) ∧
  decode .ht 0xC0FFFFFFFE = .ok (.wrCmdNone 0xFFFFFFFE) ∧
  decode .ht 0xC400000021 = .ok (.wrCfg 0x21) ∧
  decode .ht 0xD000000003 = .ok (.wrCount 3) ∧
  decode .ht 0xE400FE7F00 = .ok (.wrBias 0xFE7F00) ∧
  decode .ht 0xEC00000007 = .ok (.wrRemain 7) ∧
  decode .ht 0xFC00000001 = .ok (.wrRsvd38 0x3C 1) ∧
  decode .ht 0xFF00000000 = .ok (.wrMisalOdd 0x3F 0) ∧
  decode .state 0 = .ok .stepIdle ∧
  decode .state 5 = .ok .stepDone ∧
  decode .state 6 = .error .reservedStateCode ∧
  decode .wire 1 = .ok .bit1

/-- Decode and encode agree: every well-formed operation with a word decodes back from it, every operand at every
value; the operations without one are the internal procedures and the pseudo-operations (R93, R94). -/
def Obligations.EncodedOperationDecodesBack : Prop :=
  ∀ i : Instr, i.wellFormed = true →
    match encode i with
    | some (f, w) => decode f w = .ok i
    | none =>
      i.mnemonic ∈
        ["Adjust", "Scale", "Construct", "LoadByte", "AdvancePixel", "Has", "EndOfBit", "EndOfByte", "EndOfPixel",
          "Finish", "Tick", "Wait", "Mark", "SetHigh", "SetLow", "Toggle", "start", "poll", "has", "show"]

/-- The 36 host rows of the opcode table are pairwise disjoint and cover every word, and the row a word selects is
that of the operation it decodes to (R93). -/
def Obligations.EveryWordSelectsExactlyOneRow : Prop :=
  hostRows.length = 36 ∧
  ∀ w : Transaction, (hostRows.filter fun row => row.selects w).map (·.mnemonic) = [(decodeTransaction w).mnemonic]

/-- Every transaction word decodes to a well-formed operation whose own word differs from it at most in the bits
R80 says are ignored: all but bit 39 of a word with `valid = 0`, and `wdata` of a read. -/
def Obligations.DecodedWordEncodesBack : Prop :=
  ∀ w : Transaction,
    (decodeTransaction w).wellFormed = true ∧
    encode (decodeTransaction w) =
      some (.ht, (if w.getLsbD 39 = false then 0 else if w.getLsbD 38 then w else w &&& 0xFF00000000#40).toNat)

/-- One cycle without a host operation is Tick and the step of the encoder's state, both on the state during the
cycle, with the write of Mark to the counter winning over Tick's (R12, R127, R210, R236); the level of the cycle is
recorded (R13; log 6). -/
def Obligations.CycleIsTickThenEncoderStep : Prop :=
  ∀ s : State, ∃ u v,
    exec .tick s = .next u ∧ exec (stepOp s.enc.st) s = .next v ∧
    exec .nop s =
      .next
        { v with
          gov := if v.enc.st = .done ∧ ¬ Resting s then v.gov else u.gov
          trace := s.line :: s.trace
          rdata := none }

/-- The set of run-time exceptions is empty: every operation answers a next state in every state, and so does every
step (R230, R100). -/
def Obligations.EveryOperationCompletes : Prop :=
  (∀ (i : Instr) (s : State), ∃ t, exec i s = .next t) ∧ ∀ s : State, ∃ t, step s = .next t

/-! ### Parameters and reset -/

/-- The build-time assertion: an instance is built exactly from well-formed numbers, and it has those numbers (R8,
R231). -/
def Obligations.OnlyWellFormedInstancesExist : Prop :=
  ∀ q : RawParams,
    (q.build? = none ↔ ¬ (1 ≤ q.T1.toNat ∧ 1 ≤ q.T3.toNat)) ∧
    ∀ p, q.build? = some p →
      p.T1 = q.T1.toNat ∧ p.T2 = q.T2.toNat ∧ p.T3 = q.T3.toNat ∧ p.WAIT_TIME = q.WAIT_TIME.toNat

/-- The reset value of every piece of the block's state (R251). -/
def Obligations.ResetValuesOfTheBlock : Prop :=
  State.reset.regs =
    { ditherEn := false, zlp := false, order := .rgb, base := 0, count := 0, advance := 1, laneOff := 0
      bright := 255, corr := ⟨255, 255, 255⟩, bias := ⟨0, 0, 0⟩ } ∧
  State.reset.trav = { cursor := 0, remain := 0, d := ⟨0, 0, 0⟩ } ∧
  State.reset.enc = { st := .idle, ph := 0, bitn := 0, slot := 0, sr := 0, cb := false } ∧
  State.reset.gov = { marked := false, elapsed := 0 } ∧
  State.reset.line = false

/-- What the sixteen word locations read right after reset, for every instance, memory and host program (R81, the
column `reset`; R84). -/
def Obligations.RegistersReadTheirResetValues : Prop :=
  ∀ p m h,
    Answers .rdCmd (State.resetWith p m h) 0 ∧
    Answers .rdCfg (State.resetWith p m h) 0 ∧
    Answers .rdStatus (State.resetWith p m h) 0x00000008 ∧
    Answers .rdBase (State.resetWith p m h) 0 ∧
    Answers .rdCount (State.resetWith p m h) 0 ∧
    Answers .rdAdvance (State.resetWith p m h) 0x00000001 ∧
    Answers .rdLaneOff (State.resetWith p m h) 0 ∧
    Answers .rdBright (State.resetWith p m h) 0x000000FF ∧
    Answers .rdCorr (State.resetWith p m h) 0x00FFFFFF ∧
    Answers .rdBias (State.resetWith p m h) 0 ∧
    Answers .rdDstate (State.resetWith p m h) 0 ∧
    Answers .rdRemain (State.resetWith p m h) 0 ∧
    Answers .rdCursor (State.resetWith p m h) 0 ∧
    Answers .rdRsvd34 (State.resetWith p m h) 0 ∧
    Answers (.rdRsvd38 0x38) (State.resetWith p m h) 0 ∧
    Answers (.rdRsvd38 0x3C) (State.resetWith p m h) 0

/-- A cycle with the reset input asserted: every piece of the block's state takes its reset value, the line is low
at once, and no port operation is run (R250, R252). That the cycle is recorded as low and that memory, the coming
cycles and the records are kept is the model's choice (log 8). -/
def Obligations.ResetInputAbandonsTheFrame : Prop :=
  ∀ (s : State) (st : List (Word × Byte)) (rest : List HostCycle),
    s.host = ⟨st, .reset⟩ :: rest →
    step s =
      .next
        { s with
          regs := State.reset.regs
          trav := State.reset.trav
          enc := State.reset.enc
          gov := State.reset.gov
          line := State.reset.line
          mem := Memory.writeAll s.mem st
          host := rest
          rdata := none
          trace := false :: s.trace }

/-! ### Reads on the port -/

/-- The reads of the configuration registers, with their encodings: they answer from the state during the cycle and
change nothing else of the cycle (R104, R106, R110, R112, R114, R116, R118, R120, R122). -/
def Obligations.ConfigurationReads : Prop :=
  ∀ s : State,
    (ReadAt 0x00 .rdCmd ∧ ReadAt 0x04 .rdCfg ∧ ReadAt 0x0C .rdBase ∧ ReadAt 0x10 .rdCount ∧ ReadAt 0x14 .rdAdvance ∧
      ReadAt 0x18 .rdLaneOff ∧ ReadAt 0x1C .rdBright ∧ ReadAt 0x20 .rdCorr ∧ ReadAt 0x24 .rdBias) ∧
    Answers .rdCmd s 0 ∧
    (∃ v : Word, Answers .rdCfg s v ∧
      v.getLsbD 0 = s.regs.ditherEn ∧ v.getLsbD 1 = s.regs.zlp ∧ v.extractLsb' 2 2 = 0 ∧
      v.extractLsb' 4 3 = s.regs.order.code ∧ v.extractLsb' 7 25 = 0) ∧
    Answers .rdBase s s.regs.base ∧
    Answers .rdCount s s.regs.count ∧
    Answers .rdAdvance s s.regs.advance ∧
    Answers .rdLaneOff s s.regs.laneOff ∧
    Answers .rdBright s (BitVec.ofNat 32 s.regs.bright.toNat) ∧
    Answers .rdCorr s (0#8 ++ s.regs.corr.b ++ s.regs.corr.g ++ s.regs.corr.r) ∧
    Answers .rdBias s (0#8 ++ s.regs.bias.b ++ s.regs.bias.g ++ s.regs.bias.r)

/-- The read-only views of the traversal, with their encodings (R123, R124, R125). -/
def Obligations.TraversalReads : Prop :=
  ∀ s : State,
    ReadAt 0x28 .rdDstate ∧ ReadAt 0x2C .rdRemain ∧ ReadAt 0x30 .rdCursor ∧
    Answers .rdDstate s (0#8 ++ s.trav.d.b ++ s.trav.d.g ++ s.trav.d.r) ∧
    Answers .rdRemain s s.trav.remain ∧
    Answers .rdCursor s s.trav.cursor

/-- The encoding of the read of STATUS and the bits of STATUS, the code of every encoder state among them (R84,
R86, R107). -/
def Obligations.StatusReads : Prop :=
  ReadAt 0x08 .rdStatus ∧
  ∀ s : State, ∃ v : Word, Answers .rdStatus s v ∧
    (v.getLsbD 0 = true ↔ s.enc.st = .wait ∨ s.enc.st = .highBase ∨ s.enc.st = .highVar ∨ s.enc.st = .low) ∧
    (v.getLsbD 1 = true ↔ s.enc.st = .done) ∧
    v.getLsbD 2 = s.line ∧
    (v.getLsbD 3 = true ↔ GapHolds s) ∧
    v.getLsbD 4 = s.gov.marked ∧
    v.extractLsb' 5 3 = 0 ∧
    v.extractLsb' 8 3 =
      (match s.enc.st with
      | .idle => 0#3
      | .wait => 1#3
      | .highBase => 2#3
      | .highVar => 3#3
      | .low => 4#3
      | .done => 5#3) ∧
    v.extractLsb' 11 21 = 0

/-- The reserved and the misaligned offsets, with their encodings: a read returns 0, a write does nothing (R126). -/
def Obligations.ReservedAndMisalignedOffsets : Prop :=
  ∀ (s : State) (off : Offset) (w : Word),
    ReadAt 0x34 .rdRsvd34 ∧ WriteAt 0x34 w (.wrRsvd34 w) ∧
    (off = 0x38 ∨ off = 0x3C → ReadAt off (.rdRsvd38 off) ∧ WriteAt off w (.wrRsvd38 off w)) ∧
    (off.getLsbD 0 = true → ReadAt off (.rdMisalOdd off) ∧ WriteAt off w (.wrMisalOdd off w)) ∧
    (off.getLsbD 0 = false → off.getLsbD 1 = true → ReadAt off (.rdMisal2 off) ∧ WriteAt off w (.wrMisal2 off w)) ∧
    Answers .rdRsvd34 s 0 ∧
    Answers (.rdRsvd38 off) s 0 ∧
    Answers (.rdMisalOdd off) s 0 ∧
    Answers (.rdMisal2 off) s 0 ∧
    ∃ u, exec .nop s = .next u ∧
      exec (.wrRsvd34 w) s = .next u ∧
      exec (.wrRsvd38 off w) s = .next u ∧
      exec (.wrMisalOdd off w) s = .next u ∧
      exec (.wrMisal2 off w) s = .next u

/-! ### Writes on the port -/

/-- The writes of the configuration registers, with their encodings: a write is accepted exactly when the block
rests, and then changes that register alone, after the block's step; otherwise it is dropped: the cycle is that
of NOP (R101, R109, R111, R113, R115, R117, R119, R121). -/
def Obligations.ConfigurationWrites : Prop :=
  ∀ (s : State) (w : Word),
    (WriteAt 0x0C w (.wrBase w) ∧ WriteAt 0x10 w (.wrCount w) ∧ WriteAt 0x14 w (.wrAdvance w) ∧
      WriteAt 0x18 w (.wrLaneOff w) ∧ WriteAt 0x1C w (.wrBright w) ∧ WriteAt 0x20 w (.wrCorr w) ∧
      WriteAt 0x24 w (.wrBias w)) ∧
    WritesRegs (.wrBase w) s (fun r => { r with base := w }) ∧
    WritesRegs (.wrCount w) s (fun r => { r with count := w }) ∧
    WritesRegs (.wrAdvance w) s (fun r => { r with advance := w }) ∧
    WritesRegs (.wrLaneOff w) s (fun r => { r with laneOff := w }) ∧
    WritesRegs (.wrBright w) s (fun r => { r with bright := BitVec.ofNat 8 w.toNat }) ∧
    WritesRegs (.wrCorr w) s
      (fun r => { r with corr := ⟨w.extractLsb' 0 8, w.extractLsb' 8 8, w.extractLsb' 16 8⟩ }) ∧
    WritesRegs (.wrBias w) s
      (fun r => { r with bias := ⟨w.extractLsb' 0 8, w.extractLsb' 8 8, w.extractLsb' 16 8⟩ })

/-- A write of CFG, with its encoding: the one-bit fields take bits 0 and 1; ORDER takes bits 6:4 if that code is
legal and keeps its value if it is 6 or 7 (R83, R105). -/
def Obligations.CfgWrite : Prop :=
  ∀ (s : State) (w : Word), WriteAt 0x04 w (.wrCfg w) ∧ ∃ o : WireOrder,
    (w.extractLsb' 4 3 ≤ 5#3 → o.code = w.extractLsb' 4 3) ∧
    (5#3 < w.extractLsb' 4 3 → o = s.regs.order) ∧
    WritesRegs (.wrCfg w) s (fun r => { r with ditherEn := w.getLsbD 0, zlp := w.getLsbD 1, order := o })

/-- The encoding of START, and its effect: an accepted START constructs the traversal and enters WAIT, or DONE
for a zero-length frame under policy 0; while busy it is dropped (R102, R161, R162). The governor, the line and
the configuration are those of the block's own step. -/
def Obligations.StartBeginsAFrame : Prop :=
  ∀ (s : State) (w : Word), (w.getLsbD 0 = true → WriteAt 0x00 w (.wrCmdStart w)) ∧ ∃ u, exec .nop s = .next u ∧
    exec (.wrCmdStart w) s =
      .next (if Resting s then { u with trav := constructed s.regs, enc := started s.regs } else u)

/-- Writes that are ignored in every state, with their encodings: CMD with bit 0 clear, and the four read-only
registers (R103, R108). -/
def Obligations.IgnoredWrites : Prop :=
  ∀ (s : State) (w : Word),
    (w.getLsbD 0 = false → WriteAt 0x00 w (.wrCmdNone w)) ∧ WriteAt 0x08 w (.wrStatus w) ∧
    WriteAt 0x28 w (.wrDstate w) ∧ WriteAt 0x2C w (.wrRemain w) ∧ WriteAt 0x30 w (.wrCursor w) ∧
    ∃ u, exec .nop s = .next u ∧
    exec (.wrCmdNone w) s = .next u ∧
    exec (.wrStatus w) s = .next u ∧
    exec (.wrDstate w) s = .next u ∧
    exec (.wrRemain w) s = .next u ∧
    exec (.wrCursor w) s = .next u

/-- A resting block only ticks: every register of the encoder and the traversal, the line, the configuration and
the memory keep their values (R182). The record of levels is the model's (log 6). -/
def Obligations.RestingBlockOnlyTicks : Prop :=
  ∀ s : State, Resting s →
    exec .stepIdle s = .next s ∧ exec .stepDone s = .next s ∧
    exec .nop s =
      .next { s with gov := { s.gov with elapsed := ticked s }, rdata := none, trace := s.line :: s.trace }

/-! ### The encoder's steps -/

/-- The step in WAIT: while the gap has not elapsed nothing; then Finish for a zero-length frame, and otherwise
LoadByte(0) and the first bit (R183). -/
def Obligations.WaitStep : Prop :=
  ∀ s : State,
    (¬ GapHolds s → exec .stepWait s = .next s) ∧
    (GapHolds s → s.trav.remain = 0 → ∃ t, exec .finish s = .next t ∧ exec .stepWait s = .next t) ∧
    (GapHolds s → s.trav.remain ≠ 0 → ∃ t, exec (.loadByte 0) s = .next t ∧
      exec .stepWait s = .next { t with enc := { t.enc with st := .highBase, ph := 0 }, line := true })

/-- The step in HIGH_BASE: the phase counter advances for `T1` cycles; in the last one the bit is tested and shifted
out, and the line stays high for a 1 with `T2 ≥ 1` and goes low otherwise (R184). -/
def Obligations.HighBaseStep : Prop :=
  ∀ s : State,
    (s.enc.ph.toNat < s.params.T1 - 1 →
      exec .stepHighBase s = .next { s with enc := { s.enc with ph := s.enc.ph + 1 } }) ∧
    (¬ s.enc.ph.toNat < s.params.T1 - 1 →
      exec .stepHighBase s =
        .next
          { s with
            enc :=
              { s.enc with
                cb := s.enc.sr.getLsbD 7
                sr := BitVec.ofNat 8 (2 * s.enc.sr.toNat)
                ph := 0
                st := if s.enc.sr.getLsbD 7 = true ∧ 1 ≤ s.params.T2 then .highVar else .low }
            line := if s.enc.sr.getLsbD 7 = true ∧ 1 ≤ s.params.T2 then s.line else false })

/-- The step in HIGH_VAR: `T2` cycles, then the low part; no operation enters HIGH_VAR but with a 1 bit and `T2 ≥ 1`
(R185). -/
def Obligations.HighVarStep : Prop :=
  ∀ s : State,
    (s.enc.ph.toNat < s.params.T2 - 1 →
      exec .stepHighVar s = .next { s with enc := { s.enc with ph := s.enc.ph + 1 } }) ∧
    (¬ s.enc.ph.toNat < s.params.T2 - 1 →
      exec .stepHighVar s = .next { s with enc := { s.enc with ph := 0, st := .low }, line := false }) ∧
    ∀ i t, exec i s = .next t → s.enc.st ≠ .highVar → t.enc.st = .highVar → t.enc.cb = true ∧ 1 ≤ t.params.T2

/-- The step in LOW: `T3` cycles after a 1 bit and `T2 + T3` after a 0 bit, then the end of the bit, of the byte
or of the pixel (R186). -/
def Obligations.LowStep : Prop :=
  ∀ s : State,
    let lowlen := if s.enc.cb = true then s.params.T3 else s.params.T2 + s.params.T3
    let z : State := { s with enc := { s.enc with ph := 0 } }
    (s.enc.ph.toNat < lowlen - 1 →
      exec .stepLow s = .next { s with enc := { s.enc with ph := s.enc.ph + 1 } }) ∧
    (¬ s.enc.ph.toNat < lowlen - 1 → s.enc.bitn.toNat < 7 →
      ∃ t, exec .endOfBit z = .next t ∧ exec .stepLow s = .next t) ∧
    (¬ s.enc.ph.toNat < lowlen - 1 → s.enc.bitn.toNat = 7 → s.enc.slot.val < 2 →
      ∃ t, exec .endOfByte z = .next t ∧ exec .stepLow s = .next t) ∧
    (¬ s.enc.ph.toNat < lowlen - 1 → s.enc.bitn.toNat = 7 → s.enc.slot.val = 2 →
      ∃ t, exec .endOfPixel z = .next t ∧ exec .stepLow s = .next t)

/-- The end of a bit and of a byte (R187, R188). -/
def Obligations.EndOfBitAndByte : Prop :=
  ∀ s : State,
    (s.enc.bitn.toNat < 7 →
      exec .endOfBit s =
        .next { s with enc := { s.enc with bitn := s.enc.bitn + 1, st := .highBase }, line := true }) ∧
    (s.enc.slot.val < 2 →
      ∃ k : Slot, k.val = s.enc.slot.val + 1 ∧
      ∃ t, exec (.loadByte k) { s with enc := { s.enc with bitn := 0, slot := k } } = .next t ∧
        exec .endOfByte s = .next { t with enc := { t.enc with st := .highBase }, line := true })

/-- The end of a pixel: advance, then Finish if no pixel is left, and otherwise the next pixel's first byte, read at
the advanced cursor (R189). -/
def Obligations.EndOfPixelAdvances : Prop :=
  ∀ s : State, s.trav.remain ≠ 0 →
    ∃ a, exec .advancePixel { s with enc := { s.enc with bitn := 0, slot := 0 } } = .next a ∧
      (s.trav.remain = 1 → ∃ t, exec .finish a = .next t ∧ exec .endOfPixel s = .next t) ∧
      (s.trav.remain ≠ 1 → ∃ t, exec (.loadByte 0) a = .next t ∧
        exec .endOfPixel s = .next { t with enc := { t.enc with st := .highBase }, line := true })

/-- Finish: the state is DONE, the line low, the gap marked; the remaining count, the cursor, the shift register, the
bit and the accumulators are not written (R190). -/
def Obligations.FinishMarksAndRests : Prop :=
  ∀ s : State,
    exec .finish s =
      .next
        { s with
          enc := { s.enc with st := .done, ph := 0 }
          line := false
          gov := { marked := true, elapsed := 0 } }

/-! ### The traversal and the adjuster -/

/-- LoadByte: the byte at `addr(k)` is adjusted by the scale and the accumulator of channel `perm(k)`, which alone
of the accumulators is written, and goes to the shift register (R165, with R164). The address is logged (log 6). -/
def Obligations.LoadByteFetchesAdjustsAndLoads : Prop :=
  ∀ (s : State) (k : Slot),
    let c := s.regs.order.perm k
    let a : Word := BitVec.ofNat 32 (s.trav.cursor.toNat + s.regs.laneOff.toNat + c.val)
    ∃ sc o dn,
      exec (.scale c) s = .next { s with ret := some (.byte sc) } ∧
      exec (.adjust (Memory.read s.mem a) sc (s.trav.d.get c) s.regs.ditherEn) s =
        .next { s with ret := some (.adjusted o dn) } ∧
      ∃ d : PerChannel, d.get c = dn ∧ (∀ c', c' ≠ c → d.get c' = s.trav.d.get c') ∧
        exec (.loadByte k) s =
          .next
            { s with
              trav := { s.trav with d := d }
              enc := { s.enc with sr := o }
              reads := a :: s.reads }

/-- Adjust, over the integers (R142, R143); it writes no state of the block. -/
def Obligations.AdjustComputesTheDitheredByte : Prop :=
  ∀ (s : State) (v sc dc : Byte) (en : Bool), dc.toNat ≤ 254 →
    let q := v.toNat * sc.toNat / 255
    let r := v.toNat * sc.toNat % 255
    let t := dc.toNat + r
    ∃ o dn : Byte,
      exec (.adjust v sc dc en) s = .next { s with ret := some (.adjusted o dn) } ∧
      (sc = 0 → o = 0 ∧ dn = dc) ∧
      (sc ≠ 0 → en = false → o.toNat = q ∧ dn = dc) ∧
      (sc ≠ 0 → en = true → 255 ≤ t → o.toNat = min 255 (q + 1) ∧ dn.toNat = t - 255) ∧
      (sc ≠ 0 → en = true → t < 255 → o.toNat = min 255 q ∧ dn.toNat = t)

/-- The edge cases of Adjust: scale 0 gives 0, raw value 0 gives 0, full scale gives the raw value, and in every
case the output is the truncated value or one more; the accumulator stays at most 254 (R144, R145, R146, R147). The
spec marks R145 to R147 as derived. -/
def Obligations.AdjustEdgeCases : Prop :=
  ∀ (s : State) (v sc dc : Byte) (en : Bool), dc.toNat ≤ 254 →
    ∃ o dn : Byte,
      exec (.adjust v sc dc en) s = .next { s with ret := some (.adjusted o dn) } ∧
      (sc = 0 → o = 0 ∧ dn = dc) ∧
      (v = 0 → o = 0 ∧ dn = dc) ∧
      (sc = 255 → o = v ∧ dn = dc) ∧
      (o.toNat = v.toNat * sc.toNat / 255 ∨ o.toNat = v.toNat * sc.toNat / 255 + 1) ∧
      dn.toNat ≤ 254

/-- Convergence of the dither: the sum of `K` outputs and the accumulator after them in closed form, and so the
mean within `1/K` below and `d0/(255·K)` above the target `b·s/255` (R151). The spec marks R151 as derived. -/
def Obligations.DitherConverges : Prop :=
  ∀ (b sc d0 : Byte) (K : Nat), sc ≠ 0 → d0.toNat ≤ 254 →
    let q := b.toNat * sc.toNat / 255
    let r := b.toNat * sc.toNat % 255
    (adjustRun b sc d0 K).1 = K * q + (d0.toNat + K * r) / 255 ∧
    (adjustRun b sc d0 K).2.toNat = (d0.toNat + K * r) % 255 ∧
    K * (b.toNat * sc.toNat) < 255 * (adjustRun b sc d0 K).1 + 255 ∧
    255 * (adjustRun b sc d0 K).1 ≤ K * (b.toNat * sc.toNat) + d0.toNat

/-- Scale: `(BRIGHT * CORR[c]) div 255`, never above either operand, and the other operand when one is 255 (R141). -/
def Obligations.ScaleOfAChannel : Prop :=
  ∀ (s : State) (c : Channel), ∃ v : Byte,
    exec (.scale c) s = .next { s with ret := some (.byte v) } ∧
    v.toNat = s.regs.bright.toNat * (s.regs.corr.get c).toNat / 255 ∧
    v.toNat ≤ min s.regs.bright.toNat (s.regs.corr.get c).toNat ∧
    (s.regs.corr.get c = 255 → v = s.regs.bright) ∧
    (s.regs.bright = 255 → v = s.regs.corr.get c)

/-- The division-free form of `div 255` and `mod 255`, on every product of two bytes (R152). The spec marks R152 as
derived. -/
def Obligations.DivisionFreeForm : Prop :=
  ∀ v sc : Byte,
    let p := v.toNat * sc.toNat
    adjustQuot v sc = (p + 1 + ((p + 1) >>> 8)) >>> 8 ∧ adjustRem v sc = p - 255 * adjustQuot v sc

/-- Construct (R161, R162). -/
def Obligations.ConstructStartsTheTraversal : Prop :=
  ∀ s : State, exec .construct s = .next { s with trav := constructed s.regs }

/-- AdvancePixel and Has (R166, R167). -/
def Obligations.AdvanceAndHas : Prop :=
  ∀ (s : State) (n : Word),
    exec (.has n) s = .next { s with ret := some (.flag (decide (n.toNat ≤ s.trav.remain.toNat))) } ∧
    (s.trav.remain ≠ 0 → ∃ cur rem : Word,
      (cur.toNat : Int) = ((s.trav.cursor.toNat : Int) + 3 * s.regs.advance.toInt) % 2 ^ 32 ∧
      rem.toNat = s.trav.remain.toNat - 1 ∧
      exec .advancePixel s = .next { s with trav := { s.trav with cursor := cur, remain := rem } })

/-- The channel-order table, row by row: the code, `perm` of the slots 0, 1, 2 and `inv` of the channels 0, 1, 2;
each of the two maps undoes the other, the six codes are 0 to 5, and the six orders are all the bijections (R87,
R163). -/
def Obligations.ChannelOrderTable : Prop :=
  ([.rgb, .rbg, .grb, .gbr, .brg, .bgr] : List WireOrder).map
      (fun o =>
        (o.code.toNat, [0, 1, 2].map (fun k => (o.perm k).val), [0, 1, 2].map (fun c => (o.inv c).val))) =
    [(0, [0, 1, 2], [0, 1, 2]), (1, [0, 2, 1], [0, 2, 1]), (2, [1, 0, 2], [1, 0, 2]), (3, [1, 2, 0], [2, 0, 1]),
      (4, [2, 0, 1], [1, 2, 0]), (5, [2, 1, 0], [2, 1, 0])] ∧
  (∀ (o : WireOrder) (k : Slot), o.inv (o.perm k) = k) ∧
  (∀ (o : WireOrder) (c : Channel), o.perm (o.inv c) = c) ∧
  (∀ code : BitVec 3, (∃ o : WireOrder, o.code = code) ↔ code ≤ 5#3) ∧
  ∀ f : Slot → Channel, (∀ j k, f j = f k → j = k) → ∃ o : WireOrder, ∀ k, o.perm k = f k

/-- A reverse traversal visits the pixels a forward traversal with step `−ADVANCE` would visit, in the opposite
order, and ends on P0 (R162, R171). -/
def Obligations.ReverseTraversalEndsOnTheFirstPixel : Prop :=
  ∀ (r : Regs) (i : Nat), r.advance.toInt < 0 → i < r.count.toNat →
    frameCursor r i =
      BitVec.ofInt 32 ((r.base.toNat : Int) + 3 * (-r.advance.toInt) * ((r.count.toNat - 1 - i : Nat) : Int))

/-! ### The governor, the pin, the wire symbols, the pseudo-operations -/

/-- Tick, Wait and Mark (R210, R212, R213). That Wait answers the condition of its cycle, the blocking being the
state WAIT, is the model's reading (log 13). -/
def Obligations.GovernorOperations : Prop :=
  ∀ s : State,
    exec .tick s = .next { s with gov := { s.gov with elapsed := ticked s } } ∧
    (∃ b : Bool, (b = true ↔ GapHolds s) ∧ exec .wait s = .next { s with ret := some (.flag b) }) ∧
    exec .mark s = .next { s with gov := { marked := true, elapsed := 0 } }

/-- SetHigh, SetLow and Toggle write the line and nothing else (R221, R222, R223). The spec marks R223 as derived. -/
def Obligations.PinOperations : Prop :=
  ∀ s : State,
    exec .setHigh s = .next { s with line := true } ∧
    exec .setLow s = .next { s with line := false } ∧
    exec .toggle s = .next { s with line := if s.line then false else true }

/-- The wire symbols: high for `T1` cycles (for `T1 + T2` for a 1), then low until `T1 + T2 + T3` cycles have passed
(R89). That the governor ticks in each of the cycles and that the encoder is left alone is the model's reading
(log 12). -/
def Obligations.WireSymbols : Prop :=
  ∀ s : State, ∃ g0 g1 : Governor,
    (∀ g, g = g0 ∨ g = g1 → g.marked = s.gov.marked ∧
      (s.gov.elapsed.toNat ≤ s.params.WAIT_TIME →
        g.elapsed.toNat = min (s.gov.elapsed.toNat + (s.params.T1 + s.params.T2 + s.params.T3)) s.params.WAIT_TIME)) ∧
    exec .bit0 s =
      .next
        { s with
          line := false
          gov := g0
          trace :=
            List.replicate (s.params.T2 + s.params.T3) false ++ List.replicate s.params.T1 true ++ s.trace } ∧
    exec .bit1 s =
      .next
        { s with
          line := false
          gov := g1
          trace :=
            List.replicate s.params.T3 false ++ List.replicate (s.params.T1 + s.params.T2) true ++ s.trace }

/-- The pseudo-operations by their expansions: `start` is `wr CMD, 1`; `poll` is `rd STATUS`, repeated until bit 0
of the word read is clear; `has n` is `rd REMAIN` and the comparison; `show base, n` is `wr BASE, base`, then `wr
COUNT, n`, `wr CMD, 1` and `poll` (R92). That they run as one cycle per step, with the remaining lines put at the
head of the host's list, is the model's (log 14). -/
def Obligations.PseudoOperations : Prop :=
  ∀ (s : State) (base n : Word),
    (∃ t, exec (.wrCmdStart 1) s = .next t ∧ exec .pseudoStart s = .next t) ∧
    (∃ t v, exec .rdStatus s = .next t ∧ t.rdata = some v ∧
      exec .pseudoPoll s = .next (if v.getLsbD 0 then { t with host := ⟨[], .poll⟩ :: t.host } else t)) ∧
    (∃ t v, exec .rdRemain s = .next t ∧ t.rdata = some v ∧
      exec (.pseudoHas n) s = .next { t with ret := some (.flag (decide (n.toNat ≤ v.toNat))) }) ∧
    (∃ t w1 w2, exec (.wrBase base) s = .next t ∧
      decodeTransaction w1 = .wrCount n ∧ decodeTransaction w2 = .wrCmdStart 1 ∧
      exec (.pseudoShow base n) s =
        .next { t with host := ⟨[], .word w1⟩ :: ⟨[], .word w2⟩ :: ⟨[], .poll⟩ :: t.host })

/-! ### Frames over all operations -/

/-- No operation writes the pixel memory or the instance's parameters: every byte reads as before (R66, R54). -/
def Obligations.NoOperationWritesThePixelMemory : Prop :=
  ∀ (i : Instr) (s t : State), exec i s = .next t →
    t.params = s.params ∧ t.mem = s.mem ∧ ∀ a, Memory.read t.mem a = Memory.read s.mem a

/-- While the block is busy no operation changes a configuration register (R74, R101). -/
def Obligations.ConfigurationIsFixedWhileBusy : Prop :=
  ∀ (i : Instr) (s t : State), ¬ Resting s → exec i s = .next t → t.regs = s.regs

/-- A write of any kind presented while the block is busy is dropped: the cycle is that of NOP (R101). -/
def Obligations.WritesWhileBusyAreDropped : Prop :=
  ∀ (i : Instr) (s : State) (w : Nat), encode i = some (.ht, w) → w.testBit 39 = true → w.testBit 38 = true →
    ¬ Resting s → exec i s = exec .nop s

/-- A read of any kind, in any state, changes nothing but the answer: the cycle is that of NOP with some word
answered (R100). -/
def Obligations.ReadsChangeNothing : Prop :=
  ∀ (i : Instr) (s : State) (w : Nat), encode i = some (.ht, w) → w.testBit 39 = true → w.testBit 38 = false →
    ∃ v, Answers i s v

/-- No host operation drives the pin, touches the governor, records a read or, but for an accepted START, moves the
encoder or the traversal: these are as after the block's own step (R108, R217, R225). -/
def Obligations.HostOperationsLeaveTheBlockAlone : Prop :=
  ∀ (i : Instr) (s t u : State), isHost i = true → exec .nop s = .next u → exec i s = .next t →
    t.line = u.line ∧ t.gov = u.gov ∧ t.reads = u.reads ∧ t.trace = u.trace ∧
    ((∀ w, i ≠ .wrCmdStart w) ∨ ¬ Resting s → t.enc = u.enc ∧ t.trav = u.trav)

/-- The pixel memory: a byte stored by the host reads back, every other address reads as before (R60, R61, R71).
That an address nothing has written reads 0 plays no part (log 2). -/
def Obligations.StoredByteReadsBack : Prop :=
  ∀ (m : List Host.Cell) (a : Word) (b : Byte), Memory.wf m = true →
    Memory.read (Memory.write m a b) a = b ∧
    ∀ a', a' ≠ a → Memory.read (Memory.write m a b) a' = Memory.read m a'

/-! ### Invariants -/

/-- The invariants hold after reset, for every instance, canonical memory and host program (R55, R251). The spec
marks R55 as derived. -/
def Obligations.ResetMeetsTheInvariants : Prop :=
  ∀ p m h, Memory.wf m = true → Inv (State.resetWith p m h) ∧ InSequence (State.resetWith p m h)

/-- The invariants (a) to (h) of R55, with the canonical form of the memory, are kept by every step, whatever the
host does (R55, R226, R149). The spec marks R55 as derived. -/
def Obligations.StepKeepsTheInvariants : Prop :=
  ∀ s t : State, Inv s → step s = .next t → Inv t

/-- The sequencing invariants are kept by every step: the phase counter stays inside its phase, the shift register is
empty outside a frame, the cursor is that of the pixel being sent (R42, R166, R185, R190). -/
def Obligations.StepKeepsTheSequence : Prop :=
  ∀ s t : State, Inv s → InSequence s → step s = .next t → InSequence t

/-! ### Whole runs -/

/-- One bit: from the first HIGH_BASE cycle of a bit the line is high for `T1 + b·T2` and then low for `T3 + (1 −
b)·T2` cycles, the symbol BIT0 or BIT1, whatever the host presents meanwhile and whatever happens at the end of the
bit; the next bit begins in the cycle after, or the frame is done (R191). The spec marks R191 as derived. The
records of levels and reads are the model's (log 6). -/
def Obligations.OneBitOnTheWire : Prop :=
  ∀ s : State, s.enc.st = .highBase → s.enc.ph = 0 → s.line = true → (∀ c ∈ s.host, c.input ≠ .reset) →
    ∃ t u, steps (s.params.T1 + s.params.T2 + s.params.T3) s = .next t ∧
      exec (if s.enc.sr.getLsbD 7 then .bit1 else .bit0) s = .next u ∧
      t.trace = u.trace ∧
      (t.enc.st = .highBase ∧ t.enc.ph = 0 ∧ t.line = true ∨ t.enc.st = .done ∧ t.line = false)

/-- One byte: a byte `o` in the shift register at the first cycle of its first bit is sent as eight bit periods
that carry `o[7]` to `o[0]` (R192). The spec marks R192 as derived. The record of levels is the model's (log 6). -/
def Obligations.OneByteOnTheWire : Prop :=
  ∀ s : State, s.enc.st = .highBase → s.enc.ph = 0 → s.enc.bitn = 0 → s.line = true →
    (∀ c ∈ s.host, c.input ≠ .reset) →
    ∃ t, steps (8 * s.params.TB) s = .next t ∧
      t.trace =
        ([7, 6, 5, 4, 3, 2, 1, 0].map fun i =>
            List.replicate (if s.enc.sr.getLsbD i then s.params.T1 + s.params.T2 else s.params.T1) true ++
              List.replicate (if s.enc.sr.getLsbD i then s.params.T3 else s.params.T2 + s.params.T3)
                false).flatten.reverse ++ s.trace ∧
      t.enc.bitn = 0 ∧
      (t.enc.st = .highBase ∧ t.enc.ph = 0 ∧ t.line = true ∨ t.enc.st = .done ∧ t.line = false)

/-- One frame: from an accepted START with `N ≥ 1` pixels, the block is busy for the WAIT cycles and `24·N` bit
periods and then DONE; it reads exactly the read list, in order; the line carries, after the low cycle of the START
and the low WAIT cycles, the pulse sequence of the adjusted bytes; the remaining count is 0, the cursor one step
past the last pixel, the accumulators those after the last pixel, the gap marked, the configuration and the memory
untouched (R172, R193, R195, R196). The spec marks R172, R193, R195 and R196 as derived. The records of levels and
reads are the model's (log 6), and a START that comes with no stores is the model's input (log 7). -/
def Obligations.OneFrameOnTheWire : Prop :=
  ∀ (s : State) (w : Word) (ht : Transaction) (rest : List HostCycle),
    Inv s → Resting s → s.regs.count ≠ 0 → decodeTransaction ht = .wrCmdStart w →
    s.host = ⟨[], .word ht⟩ :: rest → (∀ c ∈ rest, c.keepsContract) →
    let N := s.regs.count.toNat
    let busyCycles := waitCycles s + 24 * N * s.params.TB
    (∀ k, 1 ≤ k → k ≤ busyCycles → ∃ u, steps k s = .next u ∧ ¬ Resting u) ∧
    ∃ t, steps (1 + busyCycles) s = .next t ∧
      t.enc.st = .done ∧ t.line = false ∧
      t.trace =
        (List.replicate (1 + waitCycles s) false ++ pulseLevels (pulseSeq s.params (frameBytes s.regs s.mem N))).reverse ++
          s.trace ∧
      t.reads = (readList s.regs N).reverse ++ s.reads ∧
      t.trav = { cursor := frameCursor s.regs N, remain := 0, d := frameAccu s.regs s.mem N } ∧
      t.gov = { marked := true, elapsed := 0 } ∧
      t.regs = s.regs ∧ t.mem = s.mem

/-- A zero-length frame: under policy 0 the next cycle is DONE and the governor only ticks; under policy 1 the
block waits for the gap, sends and reads nothing, and marks (R102, R193). The spec marks R193 as derived. The
records of levels and reads are the model's (log 6). -/
def Obligations.ZeroLengthFrames : Prop :=
  ∀ (s : State) (w : Word) (ht : Transaction) (rest : List HostCycle),
    Inv s → Resting s → s.regs.count = 0 → decodeTransaction ht = .wrCmdStart w →
    s.host = ⟨[], .word ht⟩ :: rest → (∀ c ∈ rest, c.keepsContract) →
    (s.regs.zlp = false → ∃ t, steps 1 s = .next t ∧ t.enc.st = .done ∧
      t.gov = { s.gov with elapsed := ticked s } ∧ t.reads = s.reads ∧ t.trace = false :: s.trace ∧
      t.line = false ∧ t.trav.remain = 0) ∧
    (s.regs.zlp = true →
      (∀ k, 1 ≤ k → k ≤ waitCycles s → ∃ u, steps k s = .next u ∧ u.enc.st = .wait) ∧
      ∃ t, steps (1 + waitCycles s) s = .next t ∧ t.enc.st = .done ∧
        t.gov = { marked := true, elapsed := 0 } ∧ t.reads = s.reads ∧
        t.trace = List.replicate (1 + waitCycles s) false ++ s.trace ∧ t.line = false ∧ t.trav.remain = 0)

/-- The WAIT state holds the block until `WAIT_TIME` cycles have passed since the mark, that cycle included, and
is left in the next (R183, R212). -/
def Obligations.WaitLastsUntilTheGapHasElapsed : Prop :=
  ∀ s : State, s.enc.st = .wait → s.gov.marked = true → s.gov.elapsed.toNat ≤ s.params.WAIT_TIME →
    (∀ c ∈ s.host, c.input ≠ .reset) →
    (∀ n, n ≤ s.params.WAIT_TIME - s.gov.elapsed.toNat → ∃ t, steps n s = .next t ∧
      t.enc = s.enc ∧ t.trav = s.trav ∧ t.line = s.line ∧ t.reads = s.reads ∧ t.gov.marked = true ∧
      t.gov.elapsed.toNat = s.gov.elapsed.toNat + n) ∧
    ∃ t, steps (s.params.WAIT_TIME - s.gov.elapsed.toNat + 1) s = .next t ∧ t.enc.st ≠ .wait

/-- The reset gap on the wire: after a mark the line stays low until `WAIT_TIME` has elapsed, and in the cycle in
which it has, whatever the host presents meanwhile, STARTs among it (R194, R216). The spec marks R194 and R216 as
derived. -/
def Obligations.ResetGapIsKept : Prop :=
  ∀ s : State, Inv s → Resting s → s.gov.marked = true → (∀ c ∈ s.host, c.input ≠ .reset) →
    ∀ k, k ≤ s.params.WAIT_TIME - s.gov.elapsed.toNat → ∃ t, steps k s = .next t ∧ t.line = false

/-- While the block rests and the host writes nothing, the block stays as it is and the counter holds `min(cycles,
WAIT_TIME)`, counted on from its present value (R182, R215). The spec marks R215 as derived. The record of levels
is the model's (log 6). -/
def Obligations.RestingGapIsCounted : Prop :=
  ∀ (s : State) (n : Nat), Resting s → s.gov.elapsed.toNat ≤ s.params.WAIT_TIME → (∀ c ∈ s.host, c.passive) →
    ∃ t, steps n s = .next t ∧
      t.regs = s.regs ∧ t.trav = s.trav ∧ t.enc = s.enc ∧ t.line = s.line ∧ t.reads = s.reads ∧ t.mem = s.mem ∧
      t.gov.marked = s.gov.marked ∧
      t.gov.elapsed.toNat = min (s.gov.elapsed.toNat + n) s.params.WAIT_TIME ∧
      t.trace = List.replicate n s.line ++ s.trace

/-- No cancellation: for as long as the block is busy, two hosts that write no pixel and assert no reset, whatever
else they do, leave the block, the trace and the reads the same (R101, R197, R198). The reset input is a host cycle
of the model (log 8). -/
def Obligations.HostCannotDisturbARunningFrame : Prop :=
  ∀ (n : Nat) (s s' : State), hideHost s = hideHost s' →
    (∀ c ∈ s.host, c.keepsContract) → (∀ c ∈ s'.host, c.keepsContract) →
    (∀ k, k < n → ∀ u, steps k s = .next u → ¬ Resting u) →
    ∃ t t', steps n s = .next t ∧ steps n s' = .next t' ∧ hideHost t = hideHost t'

/-- `poll` ends: from every state that meets the invariants it reads a STATUS with bit 0 clear after at most
`WAIT_TIME + 2 + 24·COUNT·TB` cycles, and the host's next line is then at the head (R130, R264). The spec marks
R130 and R264 as derived. That poll is repeated as one cycle per step is the model's (log 14). -/
def Obligations.PollTerminates : Prop :=
  ∀ (s : State) (rest : List HostCycle), Inv s → InSequence s → s.host = ⟨[], .poll⟩ :: rest →
    ∃ n t v, 1 ≤ n ∧ n ≤ s.params.WAIT_TIME + 2 + 24 * s.regs.count.toNat * s.params.TB ∧
      steps n s = .next t ∧ t.rdata = some v ∧ v.getLsbD 0 = false ∧ t.host = rest ∧ Resting t
end

