-- ==== Sys2Proof/Laws/State.lean ====
section
/-! SUPPORT. One lemma per field of State per named update (Machine/Ops.lean). -/

namespace Sys2Proof.Machine

/-! ### setMem -/

@[simp] theorem State.setMem_params (s : State) (m : List Host.Cell) : (s.setMem m).params = s.params := rfl
@[simp] theorem State.setMem_mem (s : State) (m : List Host.Cell) : (s.setMem m).mem = m := rfl
@[simp] theorem State.setMem_host (s : State) (m : List Host.Cell) : (s.setMem m).host = s.host := rfl
@[simp] theorem State.setMem_regs (s : State) (m : List Host.Cell) : (s.setMem m).regs = s.regs := rfl
@[simp] theorem State.setMem_trav (s : State) (m : List Host.Cell) : (s.setMem m).trav = s.trav := rfl
@[simp] theorem State.setMem_enc (s : State) (m : List Host.Cell) : (s.setMem m).enc = s.enc := rfl
@[simp] theorem State.setMem_gov (s : State) (m : List Host.Cell) : (s.setMem m).gov = s.gov := rfl
@[simp] theorem State.setMem_line (s : State) (m : List Host.Cell) : (s.setMem m).line = s.line := rfl
@[simp] theorem State.setMem_rdata (s : State) (m : List Host.Cell) : (s.setMem m).rdata = s.rdata := rfl
@[simp] theorem State.setMem_ret (s : State) (m : List Host.Cell) : (s.setMem m).ret = s.ret := rfl
@[simp] theorem State.setMem_trace (s : State) (m : List Host.Cell) : (s.setMem m).trace = s.trace := rfl
@[simp] theorem State.setMem_reads (s : State) (m : List Host.Cell) : (s.setMem m).reads = s.reads := rfl

/-! ### setHost -/

@[simp] theorem State.setHost_params (s : State) (h : List HostCycle) : (s.setHost h).params = s.params := rfl
@[simp] theorem State.setHost_mem (s : State) (h : List HostCycle) : (s.setHost h).mem = s.mem := rfl
@[simp] theorem State.setHost_host (s : State) (h : List HostCycle) : (s.setHost h).host = h := rfl
@[simp] theorem State.setHost_regs (s : State) (h : List HostCycle) : (s.setHost h).regs = s.regs := rfl
@[simp] theorem State.setHost_trav (s : State) (h : List HostCycle) : (s.setHost h).trav = s.trav := rfl
@[simp] theorem State.setHost_enc (s : State) (h : List HostCycle) : (s.setHost h).enc = s.enc := rfl
@[simp] theorem State.setHost_gov (s : State) (h : List HostCycle) : (s.setHost h).gov = s.gov := rfl
@[simp] theorem State.setHost_line (s : State) (h : List HostCycle) : (s.setHost h).line = s.line := rfl
@[simp] theorem State.setHost_rdata (s : State) (h : List HostCycle) : (s.setHost h).rdata = s.rdata := rfl
@[simp] theorem State.setHost_ret (s : State) (h : List HostCycle) : (s.setHost h).ret = s.ret := rfl
@[simp] theorem State.setHost_trace (s : State) (h : List HostCycle) : (s.setHost h).trace = s.trace := rfl
@[simp] theorem State.setHost_reads (s : State) (h : List HostCycle) : (s.setHost h).reads = s.reads := rfl

/-! ### setRegs -/

@[simp] theorem State.setRegs_params (s : State) (r : Regs) : (s.setRegs r).params = s.params := rfl
@[simp] theorem State.setRegs_mem (s : State) (r : Regs) : (s.setRegs r).mem = s.mem := rfl
@[simp] theorem State.setRegs_host (s : State) (r : Regs) : (s.setRegs r).host = s.host := rfl
@[simp] theorem State.setRegs_regs (s : State) (r : Regs) : (s.setRegs r).regs = r := rfl
@[simp] theorem State.setRegs_trav (s : State) (r : Regs) : (s.setRegs r).trav = s.trav := rfl
@[simp] theorem State.setRegs_enc (s : State) (r : Regs) : (s.setRegs r).enc = s.enc := rfl
@[simp] theorem State.setRegs_gov (s : State) (r : Regs) : (s.setRegs r).gov = s.gov := rfl
@[simp] theorem State.setRegs_line (s : State) (r : Regs) : (s.setRegs r).line = s.line := rfl
@[simp] theorem State.setRegs_rdata (s : State) (r : Regs) : (s.setRegs r).rdata = s.rdata := rfl
@[simp] theorem State.setRegs_ret (s : State) (r : Regs) : (s.setRegs r).ret = s.ret := rfl
@[simp] theorem State.setRegs_trace (s : State) (r : Regs) : (s.setRegs r).trace = s.trace := rfl
@[simp] theorem State.setRegs_reads (s : State) (r : Regs) : (s.setRegs r).reads = s.reads := rfl

/-! ### setTrav -/

@[simp] theorem State.setTrav_params (s : State) (t : Traversal) : (s.setTrav t).params = s.params := rfl
@[simp] theorem State.setTrav_mem (s : State) (t : Traversal) : (s.setTrav t).mem = s.mem := rfl
@[simp] theorem State.setTrav_host (s : State) (t : Traversal) : (s.setTrav t).host = s.host := rfl
@[simp] theorem State.setTrav_regs (s : State) (t : Traversal) : (s.setTrav t).regs = s.regs := rfl
@[simp] theorem State.setTrav_trav (s : State) (t : Traversal) : (s.setTrav t).trav = t := rfl
@[simp] theorem State.setTrav_enc (s : State) (t : Traversal) : (s.setTrav t).enc = s.enc := rfl
@[simp] theorem State.setTrav_gov (s : State) (t : Traversal) : (s.setTrav t).gov = s.gov := rfl
@[simp] theorem State.setTrav_line (s : State) (t : Traversal) : (s.setTrav t).line = s.line := rfl
@[simp] theorem State.setTrav_rdata (s : State) (t : Traversal) : (s.setTrav t).rdata = s.rdata := rfl
@[simp] theorem State.setTrav_ret (s : State) (t : Traversal) : (s.setTrav t).ret = s.ret := rfl
@[simp] theorem State.setTrav_trace (s : State) (t : Traversal) : (s.setTrav t).trace = s.trace := rfl
@[simp] theorem State.setTrav_reads (s : State) (t : Traversal) : (s.setTrav t).reads = s.reads := rfl

/-! ### setEnc -/

@[simp] theorem State.setEnc_params (s : State) (e : Encoder) : (s.setEnc e).params = s.params := rfl
@[simp] theorem State.setEnc_mem (s : State) (e : Encoder) : (s.setEnc e).mem = s.mem := rfl
@[simp] theorem State.setEnc_host (s : State) (e : Encoder) : (s.setEnc e).host = s.host := rfl
@[simp] theorem State.setEnc_regs (s : State) (e : Encoder) : (s.setEnc e).regs = s.regs := rfl
@[simp] theorem State.setEnc_trav (s : State) (e : Encoder) : (s.setEnc e).trav = s.trav := rfl
@[simp] theorem State.setEnc_enc (s : State) (e : Encoder) : (s.setEnc e).enc = e := rfl
@[simp] theorem State.setEnc_gov (s : State) (e : Encoder) : (s.setEnc e).gov = s.gov := rfl
@[simp] theorem State.setEnc_line (s : State) (e : Encoder) : (s.setEnc e).line = s.line := rfl
@[simp] theorem State.setEnc_rdata (s : State) (e : Encoder) : (s.setEnc e).rdata = s.rdata := rfl
@[simp] theorem State.setEnc_ret (s : State) (e : Encoder) : (s.setEnc e).ret = s.ret := rfl
@[simp] theorem State.setEnc_trace (s : State) (e : Encoder) : (s.setEnc e).trace = s.trace := rfl
@[simp] theorem State.setEnc_reads (s : State) (e : Encoder) : (s.setEnc e).reads = s.reads := rfl

/-! ### setGov -/

@[simp] theorem State.setGov_params (s : State) (g : Governor) : (s.setGov g).params = s.params := rfl
@[simp] theorem State.setGov_mem (s : State) (g : Governor) : (s.setGov g).mem = s.mem := rfl
@[simp] theorem State.setGov_host (s : State) (g : Governor) : (s.setGov g).host = s.host := rfl
@[simp] theorem State.setGov_regs (s : State) (g : Governor) : (s.setGov g).regs = s.regs := rfl
@[simp] theorem State.setGov_trav (s : State) (g : Governor) : (s.setGov g).trav = s.trav := rfl
@[simp] theorem State.setGov_enc (s : State) (g : Governor) : (s.setGov g).enc = s.enc := rfl
@[simp] theorem State.setGov_gov (s : State) (g : Governor) : (s.setGov g).gov = g := rfl
@[simp] theorem State.setGov_line (s : State) (g : Governor) : (s.setGov g).line = s.line := rfl
@[simp] theorem State.setGov_rdata (s : State) (g : Governor) : (s.setGov g).rdata = s.rdata := rfl
@[simp] theorem State.setGov_ret (s : State) (g : Governor) : (s.setGov g).ret = s.ret := rfl
@[simp] theorem State.setGov_trace (s : State) (g : Governor) : (s.setGov g).trace = s.trace := rfl
@[simp] theorem State.setGov_reads (s : State) (g : Governor) : (s.setGov g).reads = s.reads := rfl

/-! ### setLine -/

@[simp] theorem State.setLine_params (s : State) (b : Bool) : (s.setLine b).params = s.params := rfl
@[simp] theorem State.setLine_mem (s : State) (b : Bool) : (s.setLine b).mem = s.mem := rfl
@[simp] theorem State.setLine_host (s : State) (b : Bool) : (s.setLine b).host = s.host := rfl
@[simp] theorem State.setLine_regs (s : State) (b : Bool) : (s.setLine b).regs = s.regs := rfl
@[simp] theorem State.setLine_trav (s : State) (b : Bool) : (s.setLine b).trav = s.trav := rfl
@[simp] theorem State.setLine_enc (s : State) (b : Bool) : (s.setLine b).enc = s.enc := rfl
@[simp] theorem State.setLine_gov (s : State) (b : Bool) : (s.setLine b).gov = s.gov := rfl
@[simp] theorem State.setLine_line (s : State) (b : Bool) : (s.setLine b).line = b := rfl
@[simp] theorem State.setLine_rdata (s : State) (b : Bool) : (s.setLine b).rdata = s.rdata := rfl
@[simp] theorem State.setLine_ret (s : State) (b : Bool) : (s.setLine b).ret = s.ret := rfl
@[simp] theorem State.setLine_trace (s : State) (b : Bool) : (s.setLine b).trace = s.trace := rfl
@[simp] theorem State.setLine_reads (s : State) (b : Bool) : (s.setLine b).reads = s.reads := rfl

/-! ### setRdata -/

@[simp] theorem State.setRdata_params (s : State) (w : Option Word) : (s.setRdata w).params = s.params := rfl
@[simp] theorem State.setRdata_mem (s : State) (w : Option Word) : (s.setRdata w).mem = s.mem := rfl
@[simp] theorem State.setRdata_host (s : State) (w : Option Word) : (s.setRdata w).host = s.host := rfl
@[simp] theorem State.setRdata_regs (s : State) (w : Option Word) : (s.setRdata w).regs = s.regs := rfl
@[simp] theorem State.setRdata_trav (s : State) (w : Option Word) : (s.setRdata w).trav = s.trav := rfl
@[simp] theorem State.setRdata_enc (s : State) (w : Option Word) : (s.setRdata w).enc = s.enc := rfl
@[simp] theorem State.setRdata_gov (s : State) (w : Option Word) : (s.setRdata w).gov = s.gov := rfl
@[simp] theorem State.setRdata_line (s : State) (w : Option Word) : (s.setRdata w).line = s.line := rfl
@[simp] theorem State.setRdata_rdata (s : State) (w : Option Word) : (s.setRdata w).rdata = w := rfl
@[simp] theorem State.setRdata_ret (s : State) (w : Option Word) : (s.setRdata w).ret = s.ret := rfl
@[simp] theorem State.setRdata_trace (s : State) (w : Option Word) : (s.setRdata w).trace = s.trace := rfl
@[simp] theorem State.setRdata_reads (s : State) (w : Option Word) : (s.setRdata w).reads = s.reads := rfl

/-! ### setRet -/

@[simp] theorem State.setRet_params (s : State) (r : ProcResult) : (s.setRet r).params = s.params := rfl
@[simp] theorem State.setRet_mem (s : State) (r : ProcResult) : (s.setRet r).mem = s.mem := rfl
@[simp] theorem State.setRet_host (s : State) (r : ProcResult) : (s.setRet r).host = s.host := rfl
@[simp] theorem State.setRet_regs (s : State) (r : ProcResult) : (s.setRet r).regs = s.regs := rfl
@[simp] theorem State.setRet_trav (s : State) (r : ProcResult) : (s.setRet r).trav = s.trav := rfl
@[simp] theorem State.setRet_enc (s : State) (r : ProcResult) : (s.setRet r).enc = s.enc := rfl
@[simp] theorem State.setRet_gov (s : State) (r : ProcResult) : (s.setRet r).gov = s.gov := rfl
@[simp] theorem State.setRet_line (s : State) (r : ProcResult) : (s.setRet r).line = s.line := rfl
@[simp] theorem State.setRet_rdata (s : State) (r : ProcResult) : (s.setRet r).rdata = s.rdata := rfl
@[simp] theorem State.setRet_ret (s : State) (r : ProcResult) : (s.setRet r).ret = some r := rfl
@[simp] theorem State.setRet_trace (s : State) (r : ProcResult) : (s.setRet r).trace = s.trace := rfl
@[simp] theorem State.setRet_reads (s : State) (r : ProcResult) : (s.setRet r).reads = s.reads := rfl

/-! ### logLevels -/

@[simp] theorem State.logLevels_params (s : State) (l : List Bool) : (s.logLevels l).params = s.params := rfl
@[simp] theorem State.logLevels_mem (s : State) (l : List Bool) : (s.logLevels l).mem = s.mem := rfl
@[simp] theorem State.logLevels_host (s : State) (l : List Bool) : (s.logLevels l).host = s.host := rfl
@[simp] theorem State.logLevels_regs (s : State) (l : List Bool) : (s.logLevels l).regs = s.regs := rfl
@[simp] theorem State.logLevels_trav (s : State) (l : List Bool) : (s.logLevels l).trav = s.trav := rfl
@[simp] theorem State.logLevels_enc (s : State) (l : List Bool) : (s.logLevels l).enc = s.enc := rfl
@[simp] theorem State.logLevels_gov (s : State) (l : List Bool) : (s.logLevels l).gov = s.gov := rfl
@[simp] theorem State.logLevels_line (s : State) (l : List Bool) : (s.logLevels l).line = s.line := rfl
@[simp] theorem State.logLevels_rdata (s : State) (l : List Bool) : (s.logLevels l).rdata = s.rdata := rfl
@[simp] theorem State.logLevels_ret (s : State) (l : List Bool) : (s.logLevels l).ret = s.ret := rfl
@[simp] theorem State.logLevels_trace (s : State) (l : List Bool) : (s.logLevels l).trace = l ++ s.trace := rfl
@[simp] theorem State.logLevels_reads (s : State) (l : List Bool) : (s.logLevels l).reads = s.reads := rfl

/-! ### logRead -/

@[simp] theorem State.logRead_params (s : State) (a : Word) : (s.logRead a).params = s.params := rfl
@[simp] theorem State.logRead_mem (s : State) (a : Word) : (s.logRead a).mem = s.mem := rfl
@[simp] theorem State.logRead_host (s : State) (a : Word) : (s.logRead a).host = s.host := rfl
@[simp] theorem State.logRead_regs (s : State) (a : Word) : (s.logRead a).regs = s.regs := rfl
@[simp] theorem State.logRead_trav (s : State) (a : Word) : (s.logRead a).trav = s.trav := rfl
@[simp] theorem State.logRead_enc (s : State) (a : Word) : (s.logRead a).enc = s.enc := rfl
@[simp] theorem State.logRead_gov (s : State) (a : Word) : (s.logRead a).gov = s.gov := rfl
@[simp] theorem State.logRead_line (s : State) (a : Word) : (s.logRead a).line = s.line := rfl
@[simp] theorem State.logRead_rdata (s : State) (a : Word) : (s.logRead a).rdata = s.rdata := rfl
@[simp] theorem State.logRead_ret (s : State) (a : Word) : (s.logRead a).ret = s.ret := rfl
@[simp] theorem State.logRead_trace (s : State) (a : Word) : (s.logRead a).trace = s.trace := rfl
@[simp] theorem State.logRead_reads (s : State) (a : Word) : (s.logRead a).reads = a :: s.reads := rfl

/-! ### goto, nextPhase, pushed host cycles -/

@[simp] theorem State.goto_params (s : State) (st : EncState) : (s.goto st).params = s.params := rfl
@[simp] theorem State.goto_mem (s : State) (st : EncState) : (s.goto st).mem = s.mem := rfl
@[simp] theorem State.goto_host (s : State) (st : EncState) : (s.goto st).host = s.host := rfl
@[simp] theorem State.goto_regs (s : State) (st : EncState) : (s.goto st).regs = s.regs := rfl
@[simp] theorem State.goto_trav (s : State) (st : EncState) : (s.goto st).trav = s.trav := rfl
@[simp] theorem State.goto_enc (s : State) (st : EncState) : (s.goto st).enc = { s.enc with st := st } := rfl
@[simp] theorem State.goto_gov (s : State) (st : EncState) : (s.goto st).gov = s.gov := rfl
@[simp] theorem State.goto_line (s : State) (st : EncState) : (s.goto st).line = s.line := rfl
@[simp] theorem State.goto_rdata (s : State) (st : EncState) : (s.goto st).rdata = s.rdata := rfl
@[simp] theorem State.goto_ret (s : State) (st : EncState) : (s.goto st).ret = s.ret := rfl
@[simp] theorem State.goto_trace (s : State) (st : EncState) : (s.goto st).trace = s.trace := rfl
@[simp] theorem State.goto_reads (s : State) (st : EncState) : (s.goto st).reads = s.reads := rfl

@[simp] theorem State.nextPhase_params (s : State) : (s.nextPhase).params = s.params := rfl
@[simp] theorem State.nextPhase_mem (s : State) : (s.nextPhase).mem = s.mem := rfl
@[simp] theorem State.nextPhase_host (s : State) : (s.nextPhase).host = s.host := rfl
@[simp] theorem State.nextPhase_regs (s : State) : (s.nextPhase).regs = s.regs := rfl
@[simp] theorem State.nextPhase_trav (s : State) : (s.nextPhase).trav = s.trav := rfl
@[simp] theorem State.nextPhase_enc (s : State) : (s.nextPhase).enc = { s.enc with ph := s.enc.ph + 1 } := rfl
@[simp] theorem State.nextPhase_gov (s : State) : (s.nextPhase).gov = s.gov := rfl
@[simp] theorem State.nextPhase_line (s : State) : (s.nextPhase).line = s.line := rfl
@[simp] theorem State.nextPhase_rdata (s : State) : (s.nextPhase).rdata = s.rdata := rfl
@[simp] theorem State.nextPhase_ret (s : State) : (s.nextPhase).ret = s.ret := rfl
@[simp] theorem State.nextPhase_trace (s : State) : (s.nextPhase).trace = s.trace := rfl
@[simp] theorem State.nextPhase_reads (s : State) : (s.nextPhase).reads = s.reads := rfl

end Sys2Proof.Machine
end

