-- ==== Sys2Proof/Laws/Block.lean ====
section
/-! SUPPORT. What each shared operation of the block can change, said once. -/

namespace Sys2Proof.Machine

/-- What no procedure of the block writes: the instance, the pixel memory, the host's cycles, the configuration
registers, the port's answer, a procedure's answer and the recorded levels. -/
abbrev SameEnvironment (s t : State) : Prop :=
  t.params = s.params ∧ t.mem = s.mem ∧ t.host = s.host ∧ t.regs = s.regs ∧ t.rdata = s.rdata ∧ t.ret = s.ret ∧
    t.trace = s.trace

theorem SameEnvironment.refl (s : State) : SameEnvironment s s := ⟨rfl, rfl, rfl, rfl, rfl, rfl, rfl⟩

theorem SameEnvironment.trans {s t u : State} (h : SameEnvironment s t) (k : SameEnvironment t u) :
    SameEnvironment s u := by
  obtain ⟨h1, h2, h3, h4, h5, h6, h7⟩ := h
  obtain ⟨k1, k2, k3, k4, k5, k6, k7⟩ := k
  exact ⟨k1.trans h1, k2.trans h2, k3.trans h3, k4.trans h4, k5.trans h5, k6.trans h6, k7.trans h7⟩

theorem setEnc_env (s : State) (e : Encoder) : SameEnvironment s (s.setEnc e) := by simp [SameEnvironment]

theorem setTrav_env (s : State) (t : Traversal) : SameEnvironment s (s.setTrav t) := by simp [SameEnvironment]

theorem setGov_env (s : State) (g : Governor) : SameEnvironment s (s.setGov g) := by simp [SameEnvironment]

theorem setLine_env (s : State) (b : Bool) : SameEnvironment s (s.setLine b) := by simp [SameEnvironment]

theorem logRead_env (s : State) (a : Word) : SameEnvironment s (s.logRead a) := by simp [SameEnvironment]

theorem tick_env (s : State) : SameEnvironment s (tick s) := setGov_env s _

theorem mark_env (s : State) : SameEnvironment s (mark s) := setGov_env s _

theorem loadByte_env (k : Slot) (s : State) : SameEnvironment s (loadByte k s) :=
  ((setTrav_env s _).trans (setEnc_env _ _)).trans (logRead_env _ _)

theorem advancePixel_env (s : State) : SameEnvironment s (advancePixel s) := setTrav_env s _

theorem beginBit_env (s : State) : SameEnvironment s (beginBit s) := (setEnc_env s _).trans (setLine_env _ _)

theorem beginLow_env (s : State) : SameEnvironment s (beginLow s) := (setEnc_env s _).trans (setLine_env _ _)

theorem finish_env (s : State) : SameEnvironment s (finish s) :=
  ((setEnc_env s _).trans (setLine_env _ _)).trans (mark_env _)

theorem endOfBit_env (s : State) : SameEnvironment s (endOfBit s) := (setEnc_env s _).trans (beginBit_env _)

theorem endOfByte_env (s : State) : SameEnvironment s (endOfByte s) :=
  ((setEnc_env s _).trans (loadByte_env _ _)).trans (beginBit_env _)

theorem endOfPixel_env (s : State) : SameEnvironment s (endOfPixel s) := by
  have h := (setEnc_env s { s.enc with bitn := 0, slot := 0 }).trans (advancePixel_env _)
  unfold endOfPixel
  split
  · exact h.trans (finish_env _)
  · exact (h.trans (loadByte_env _ _)).trans (beginBit_env _)

theorem stepWait_env (gap : Bool) (s : State) : SameEnvironment s (stepWait gap s) := by
  unfold stepWait
  split
  · split
    · exact finish_env s
    · exact ((loadByte_env _ s).trans (setEnc_env _ _)).trans (beginBit_env _)
  · exact SameEnvironment.refl s

theorem stepHighBase_env (s : State) : SameEnvironment s (stepHighBase s) := by
  unfold stepHighBase
  split
  · exact setEnc_env s _
  · dsimp only
    split
    · exact (setEnc_env s _).trans (setEnc_env _ _)
    · exact (setEnc_env s _).trans (beginLow_env _)

theorem stepHighVar_env (s : State) : SameEnvironment s (stepHighVar s) := by
  unfold stepHighVar
  split
  · exact setEnc_env s _
  · exact (setEnc_env s _).trans (beginLow_env _)

theorem stepLow_env (s : State) : SameEnvironment s (stepLow s) := by
  unfold stepLow
  split
  · exact setEnc_env s _
  · dsimp only
    split
    · exact (setEnc_env s _).trans (endOfBit_env _)
    · split
      · exact (setEnc_env s _).trans (endOfByte_env _)
      · exact (setEnc_env s _).trans (endOfPixel_env _)

/-- The encoder's step in any state leaves the environment alone. -/
theorem encoderStep_env (gap : Bool) (s : State) : SameEnvironment s (encoderStep gap s) := by
  unfold encoderStep
  split
  · exact SameEnvironment.refl s
  · exact stepWait_env gap s
  · exact stepHighBase_env s
  · exact stepHighVar_env s
  · exact stepLow_env s
  · exact SameEnvironment.refl s

/-- The block's step leaves the environment alone. -/
theorem blockStep_env (s : State) : SameEnvironment s (blockStep s) :=
  (tick_env s).trans (encoderStep_env _ _)

/-- A resting block only ticks (R182). -/
theorem blockStep_resting {s : State} (h : s.busy = false) : blockStep s = tick s := by
  cases hst : s.enc.st <;> simp [State.busy, EncState.busy, hst] at h
  all_goals simp [blockStep, encoderStep, tick, hst, stepResting]

/-- A write while the block is busy is a cycle without an operation (R101). -/
theorem writeCycle_busy {s : State} (f : State → State) (h : s.busy = true) : writeCycle f s = cycle s := by
  simp [writeCycle, h]

/-- A write while the block rests takes effect after the block's step (R12, R101). -/
theorem writeCycle_resting {s : State} (f : State → State) (h : s.busy = false) :
    writeCycle f s = f (cycle s) := by
  simp [writeCycle, h]

/-- The fields of a cycle without an operation that the block does not compute. -/
theorem cycle_env (s : State) :
    (cycle s).params = s.params ∧ (cycle s).mem = s.mem ∧ (cycle s).host = s.host ∧ (cycle s).regs = s.regs ∧
      (cycle s).rdata = none ∧ (cycle s).ret = s.ret ∧ (cycle s).trace = s.line :: s.trace := by
  obtain ⟨h1, h2, h3, h4, -, h6, h7⟩ := blockStep_env s
  exact ⟨h1, h2, h3, h4, rfl, h6, congrArg (s.line :: ·) h7⟩

/-- An array element read back after a write of the same channel. -/
theorem get_set_same (p : PerChannel) (c : Channel) (v : Byte) : (p.set c v).get c = v := by
  unfold PerChannel.set PerChannel.get
  split
  · rfl
  · split <;> rfl

/-- A write of one channel leaves the others (R150). -/
theorem get_set_other (p : PerChannel) {c c' : Channel} (v : Byte) (h : c' ≠ c) :
    (p.set c v).get c' = p.get c' := by
  revert h
  fin_cases c <;> fin_cases c' <;> simp [PerChannel.set, PerChannel.get]

end Sys2Proof.Machine
end

