-- ==== Sys2Proof/Laws/Memory.lean ====
section
/-! SUPPORT. Every operation on the pixel memory keeps its canonical form (log 2). -/

namespace Sys2Proof.Machine

/-- A memory whose addresses start at `lo` also has addresses from any lower bound on. -/
theorem Memory.wfFrom_mono {lo lo' : Nat} {m : List Host.Cell} (h : lo' ≤ lo) (hm : Memory.wfFrom lo m = true) :
    Memory.wfFrom lo' m = true := by
  cases m with
  | nil => rfl
  | cons c rest =>
    obtain ⟨k, v⟩ := c
    simp only [Memory.wfFrom, Bool.and_eq_true, decide_eq_true_eq] at hm ⊢
    exact ⟨⟨⟨by omega, hm.1.1.2⟩, hm.1.2⟩, hm.2⟩

/-- A cell put before a memory whose addresses are all higher leaves it canonical. -/
theorem Memory.wfFrom_putCell {lo a : Nat} {b : Byte} {m : List Host.Cell} (hlo : lo ≤ a) (ha : a < 2 ^ 32)
    (hm : Memory.wfFrom (a + 1) m = true) : Memory.wfFrom lo (Memory.putCell a b m) = true := by
  unfold Memory.putCell
  split
  · exact Memory.wfFrom_mono (by omega) hm
  · rename_i hb
    simp only [Memory.wfFrom, Bool.and_eq_true, decide_eq_true_eq, bne_iff_ne, ne_eq]
    exact ⟨⟨⟨hlo, ha⟩, hb⟩, hm⟩

/-- A write keeps the canonical form, from any lower bound of the addresses on. -/
theorem Memory.wfFrom_write {m : List Host.Cell} (a : Word) (b : Byte) :
    ∀ lo, lo ≤ a.toNat → Memory.wfFrom lo m = true → Memory.wfFrom lo (Memory.write m a b) = true := by
  induction m with
  | nil => intro lo hlo _; exact Memory.wfFrom_putCell hlo a.isLt rfl
  | cons c rest ih =>
    obtain ⟨k, v⟩ := c
    intro lo hlo hm
    have hm' := hm
    simp only [Memory.wfFrom, Bool.and_eq_true, decide_eq_true_eq] at hm'
    unfold Memory.write
    split
    · rename_i hlt
      refine Memory.wfFrom_putCell hlo a.isLt ?_
      simp only [Memory.wfFrom, Bool.and_eq_true, decide_eq_true_eq]
      exact ⟨⟨⟨by omega, hm'.1.1.2⟩, hm'.1.2⟩, hm'.2⟩
    · split
      · rename_i heq
        subst heq
        exact Memory.wfFrom_putCell hlo a.isLt hm'.2
      · simp only [Memory.wfFrom, Bool.and_eq_true, decide_eq_true_eq]
        exact ⟨hm'.1, ih (k + 1) (by omega) hm'.2⟩

/-- A host store keeps the canonical form. -/
theorem Memory.wf_write {m : List Host.Cell} (a : Word) (b : Byte) (hm : Memory.wf m = true) :
    Memory.wf (Memory.write m a b) = true :=
  Memory.wfFrom_write a b 0 (Nat.zero_le _) hm

/-- The stores of a host cycle keep the canonical form. -/
theorem Memory.wf_writeAll {l : List (Word × Byte)} {m : List Host.Cell} (hm : Memory.wf m = true) :
    Memory.wf (Memory.writeAll m l) = true := by
  induction l generalizing m with
  | nil => exact hm
  | cons x rest ih => exact ih (Memory.wf_write x.1 x.2 hm)

/-- The memory after reset is canonical. -/
theorem Memory.wf_reset : Memory.wf State.reset.mem = true := rfl

end Sys2Proof.Machine
end

