-- ==== Sys2Proof/Laws/PerInstr.lean ====
section
/-! SUPPORT. Per operation: its encoded word fits the width of its format (30_encoding.md R80, R86, R94). -/

namespace Sys2Proof.Laws.EncodedWidth

/-- Whatever word `encode` gives an operation, it is a number of its format's width. -/
def Statement (i : Instr) : Prop := ∀ f w, encode i = some (f, w) → w < 2 ^ f.width

theorem of_none {i : Instr} (h : encode i = none) : Statement i := by
  intro f w hw
  rw [h] at hw
  exact absurd hw (by simp)

theorem of_read {i : Instr} {off : Offset} (h : encode i = encodeRead off) : Statement i := by
  intro f w hw
  rw [h, encodeRead, Option.some.injEq, Prod.mk.injEq] at hw
  obtain ⟨rfl, rfl⟩ := hw
  exact (htWord false off 0).isLt

theorem of_write {i : Instr} {off : Offset} {wdata : Word} (h : encode i = encodeWrite off wdata) : Statement i := by
  intro f w hw
  rw [h, encodeWrite, Option.some.injEq, Prod.mk.injEq] at hw
  obtain ⟨rfl, rfl⟩ := hw
  exact (htWord true off wdata).isLt

theorem of_code {i : Instr} {f : Format} {w : Nat} (h : encode i = some (f, w)) (hw : w < 2 ^ f.width) :
    Statement i := by
  intro f' w' h'
  rw [h, Option.some.injEq, Prod.mk.injEq] at h'
  obtain ⟨rfl, rfl⟩ := h'
  exact hw

theorem nop : Statement (.nop) := of_code rfl (by decide)
theorem rdCmd : Statement (.rdCmd) := of_read rfl
theorem rdCfg : Statement (.rdCfg) := of_read rfl
theorem rdStatus : Statement (.rdStatus) := of_read rfl
theorem rdBase : Statement (.rdBase) := of_read rfl
theorem rdCount : Statement (.rdCount) := of_read rfl
theorem rdAdvance : Statement (.rdAdvance) := of_read rfl
theorem rdLaneOff : Statement (.rdLaneOff) := of_read rfl
theorem rdBright : Statement (.rdBright) := of_read rfl
theorem rdCorr : Statement (.rdCorr) := of_read rfl
theorem rdBias : Statement (.rdBias) := of_read rfl
theorem rdDstate : Statement (.rdDstate) := of_read rfl
theorem rdRemain : Statement (.rdRemain) := of_read rfl
theorem rdCursor : Statement (.rdCursor) := of_read rfl
theorem wrCmdStart (wdata : Word) : Statement (.wrCmdStart wdata) := of_write rfl
theorem wrCmdNone (wdata : Word) : Statement (.wrCmdNone wdata) := of_write rfl
theorem wrCfg (wdata : Word) : Statement (.wrCfg wdata) := of_write rfl
theorem wrStatus (wdata : Word) : Statement (.wrStatus wdata) := of_write rfl
theorem wrBase (wdata : Word) : Statement (.wrBase wdata) := of_write rfl
theorem wrCount (wdata : Word) : Statement (.wrCount wdata) := of_write rfl
theorem wrAdvance (wdata : Word) : Statement (.wrAdvance wdata) := of_write rfl
theorem wrLaneOff (wdata : Word) : Statement (.wrLaneOff wdata) := of_write rfl
theorem wrBright (wdata : Word) : Statement (.wrBright wdata) := of_write rfl
theorem wrCorr (wdata : Word) : Statement (.wrCorr wdata) := of_write rfl
theorem wrBias (wdata : Word) : Statement (.wrBias wdata) := of_write rfl
theorem wrDstate (wdata : Word) : Statement (.wrDstate wdata) := of_write rfl
theorem wrRemain (wdata : Word) : Statement (.wrRemain wdata) := of_write rfl
theorem wrCursor (wdata : Word) : Statement (.wrCursor wdata) := of_write rfl
theorem rdRsvd34 : Statement (.rdRsvd34) := of_read rfl
theorem rdRsvd38 (off : Offset) : Statement (.rdRsvd38 off) := of_read rfl
theorem rdMisalOdd (off : Offset) : Statement (.rdMisalOdd off) := of_read rfl
theorem rdMisal2 (off : Offset) : Statement (.rdMisal2 off) := of_read rfl
theorem wrRsvd34 (wdata : Word) : Statement (.wrRsvd34 wdata) := of_write rfl
theorem wrRsvd38 (off : Offset) (wdata : Word) : Statement (.wrRsvd38 off wdata) := of_write rfl
theorem wrMisalOdd (off : Offset) (wdata : Word) : Statement (.wrMisalOdd off wdata) := of_write rfl
theorem wrMisal2 (off : Offset) (wdata : Word) : Statement (.wrMisal2 off wdata) := of_write rfl
theorem stepIdle : Statement (.stepIdle) := of_code rfl (by decide)
theorem stepWait : Statement (.stepWait) := of_code rfl (by decide)
theorem stepHighBase : Statement (.stepHighBase) := of_code rfl (by decide)
theorem stepHighVar : Statement (.stepHighVar) := of_code rfl (by decide)
theorem stepLow : Statement (.stepLow) := of_code rfl (by decide)
theorem stepDone : Statement (.stepDone) := of_code rfl (by decide)
theorem bit0 : Statement (.bit0) := of_code rfl (by decide)
theorem bit1 : Statement (.bit1) := of_code rfl (by decide)
theorem adjust (v s dc : Byte) (en : Bool) : Statement (.adjust v s dc en) := of_none rfl
theorem scale (c : Channel) : Statement (.scale c) := of_none rfl
theorem construct : Statement (.construct) := of_none rfl
theorem loadByte (k : Slot) : Statement (.loadByte k) := of_none rfl
theorem advancePixel : Statement (.advancePixel) := of_none rfl
theorem has (n : Word) : Statement (.has n) := of_none rfl
theorem endOfBit : Statement (.endOfBit) := of_none rfl
theorem endOfByte : Statement (.endOfByte) := of_none rfl
theorem endOfPixel : Statement (.endOfPixel) := of_none rfl
theorem finish : Statement (.finish) := of_none rfl
theorem tick : Statement (.tick) := of_none rfl
theorem wait : Statement (.wait) := of_none rfl
theorem mark : Statement (.mark) := of_none rfl
theorem setHigh : Statement (.setHigh) := of_none rfl
theorem setLow : Statement (.setLow) := of_none rfl
theorem toggle : Statement (.toggle) := of_none rfl
theorem pseudoStart : Statement (.pseudoStart) := of_none rfl
theorem pseudoPoll : Statement (.pseudoPoll) := of_none rfl
theorem pseudoHas (n : Word) : Statement (.pseudoHas n) := of_none rfl
theorem pseudoShow (base n : Word) : Statement (.pseudoShow base n) := of_none rfl

end Sys2Proof.Laws.EncodedWidth
end

