-- ==== Sys2Proof/Tests/Slice0.lean ====
section
/-! SUPPORT. The model's own tests: the checks of WellFormed, decoded words, single operations with results from
spec/95_test_vectors.md and the examples of the rules, and a witness for every statement with hypotheses. -/

namespace Sys2Proof.Tests

open Sys2Proof.Machine Sys2Proof.Claims

/-! ### WellFormed refuses -/

theorem test_wf_start_needs_bit0 : (Instr.wrCmdStart 0xFFFFFFFE).wellFormed = false := by decide
theorem test_wf_none_needs_bit0_clear : (Instr.wrCmdNone 1).wellFormed = false := by decide
theorem test_wf_rd_rsvd38 : (Instr.rdRsvd38 0x34).wellFormed = false := by decide
theorem test_wf_rd_misal_odd : (Instr.rdMisalOdd 0x02).wellFormed = false := by decide
theorem test_wf_rd_misal_2 : (Instr.rdMisal2 0x03).wellFormed = false := by decide
theorem test_wf_wr_rsvd38 : (Instr.wrRsvd38 0x30 0).wellFormed = false := by decide
theorem test_wf_wr_misal_odd : (Instr.wrMisalOdd 0x00 0).wellFormed = false := by decide
theorem test_wf_wr_misal_2 : (Instr.wrMisal2 0x04 0).wellFormed = false := by decide
theorem test_wf_adjust_dc : (Instr.adjust 1 1 255 true).wellFormed = false := by decide

/-- R8: `T1 = 0` or `T3 = 0` builds no instance. -/
theorem test_ill_formed_instance_refused :
    RawParams.build? ⟨0, 5, 3, 20⟩ = none ∧ RawParams.build? ⟨2, 5, 0, 20⟩ = none := by decide

/-! ### Decoding: every row, by words written from R80 and 95_test_vectors.md 4.1 -/

theorem test_decode_reads :
    [0x0000000000, 0x8000000000, 0x8400000000, 0x8800000000, 0x8C00000000, 0x9000000000, 0x9400000000,
      0x9800000000, 0x9C00000000, 0xA000000000, 0xA400000000, 0xA800000000, 0xAC00000000, 0xB000000000].map
        decodeTransaction =
      [.nop, .rdCmd, .rdCfg, .rdStatus, .rdBase, .rdCount, .rdAdvance, .rdLaneOff, .rdBright, .rdCorr, .rdBias,
        .rdDstate, .rdRemain, .rdCursor] := by decide

theorem test_decode_writes :
    [0xC000000001, 0xC000000000, 0xC400000021, 0xC8FFFFFFFF, 0xCC00000100, 0xD000000003, 0xD4FFFFFFFF,
      0xD800000003, 0xDC00000080, 0xE000112233, 0xE400FE7F00, 0xE800000001, 0xEC00000007, 0xF080000000].map
        decodeTransaction =
      [.wrCmdStart 1, .wrCmdNone 0, .wrCfg 0x21, .wrStatus 0xFFFFFFFF, .wrBase 0x100, .wrCount 3,
        .wrAdvance 0xFFFFFFFF, .wrLaneOff 3, .wrBright 0x80, .wrCorr 0x112233, .wrBias 0xFE7F00, .wrDstate 1,
        .wrRemain 7, .wrCursor 0x80000000] := by decide

theorem test_decode_others :
    [0xB400000000, 0xB800000000, 0xBC00000000, 0x8500000000, 0x8200000000, 0xF400000005, 0xFC00000001,
      0xC100000000, 0xC200000009, 0xBE00000000].map decodeTransaction =
      [.rdRsvd34, .rdRsvd38 0x38, .rdRsvd38 0x3C, .rdMisalOdd 0x05, .rdMisal2 0x02, .wrRsvd34 5,
        .wrRsvd38 0x3C 1, .wrMisalOdd 0x01 0, .wrMisal2 0x02 9, .rdMisal2 0x3E] := by decide

theorem test_decode_states_and_symbols :
    [0, 1, 2, 3, 4, 5, 6, 7].map (decodeTableWord 3) =
      [some .stepIdle, some .stepWait, some .stepHighBase, some .stepHighVar, some .stepLow, some .stepDone, none,
        none] ∧
    [0, 1, 2].map (decodeTableWord 1) = [some .bit0, some .bit1, none] := by decide

theorem test_decode_too_wide : decode .ht (2 ^ 40) = .error .wordTooWide := by rfl

theorem test_encode_count : encode (.wrCount 3) = some (.ht, 0xD000000003) := by decide

/-! ### A small machine: `P = (2, 5, 3, 20)`, the parameters of 95_test_vectors.md section 9 -/

/-- `P = (2, 5, 3, 20)`. -/
def p2 : Params := { t1Pred := 1, t2 := 5, t3Pred := 2, waitTime := 20 }

/-- The memory of program P1. -/
def mem1 : List Host.Cell := [(0x100, 0xB0), (0x102, 0xFF)]

/-- The machine after reset with that memory, `BASE = 0x100`, `COUNT = 1`. -/
def ready : State :=
  let s := State.resetWith p2 mem1 []
  s.setRegs { s.regs with base := 0x100, count := 1 }

/-- The encoder of `ready` replaced, with the line that goes with its state, and `remain = 1`. -/
def atEnc (e : Encoder) : State :=
  ((ready.setEnc e).setLine e.st.high).setTrav { cursor := 0x100, remain := 1, d := ⟨0, 0, 0⟩ }

/-- The first cycle of a bit, with a byte in the shift register. -/
def atHigh : State := atEnc { Encoder.reset with st := .highBase, sr := 0xB0 }

/-- A state waiting for the gap, marked `e` cycles ago. -/
def atWait (e : Word) : State := (atEnc { Encoder.reset with st := .wait }).setGov { marked := true, elapsed := e }

/-- The state an outcome answers. -/
def next? (o : Host.Outcome State Fault Refusal) : Option State :=
  match o with
  | .next s => some s
  | .fault _ => none
  | .refused _ => none

/-- The port's answer to an operation. -/
def answer (i : Instr) (s : State) : Option Word := (next? (exec i s)).bind (·.rdata)

/-- The configuration registers after an operation. -/
def regsAfter (i : Instr) (s : State) : Option Regs := (next? (exec i s)).map (·.regs)

/-- What a procedure returns. -/
def returned (i : Instr) (s : State) : Option ProcResult := (next? (exec i s)).bind (·.ret)

/-! ### Reads (40_host_operations.md; 95_test_vectors.md 4.2, 4.3) -/

theorem test_read_status_values :
    [answer .rdStatus ready, answer .rdStatus atHigh, answer .rdStatus (atWait 2), answer .rdStatus (atWait 20)] =
      [some 0x008, some 0x20D, some 0x111, some 0x119] := by decide

theorem test_read_registers :
    [answer .rdCmd ready, answer .rdBase ready, answer .rdCount ready, answer .rdAdvance ready,
      answer .rdBright ready, answer .rdCorr ready, answer (.rdMisalOdd 0x05) ready, answer .nop ready] =
      [some 0, some 0x100, some 1, some 1, some 0xFF, some 0x00FFFFFF, some 0, none] := by decide

theorem test_read_traversal :
    [answer .rdRemain atHigh, answer .rdCursor atHigh, answer .rdDstate atHigh] = [some 1, some 0x100, some 0] := by
  decide

/-! ### Writes (95_test_vectors.md 4.2) -/

theorem test_write_cfg_sequence :
    [(regsAfter (.wrCfg 0xFFFFFFFF) ready).map cfgWord, (regsAfter (.wrCfg 0x53) ready).map cfgWord,
      (regsAfter (.wrCfg 0x60) (writeRegs (fun r => writeCfg r 0x53) ready)).map cfgWord] =
      [some 0x03, some 0x53, some 0x50] := by decide

theorem test_write_corr : (regsAfter (.wrCorr 0xAA112233) ready).map (·.corr) = some ⟨0x33, 0x22, 0x11⟩ := by decide
theorem test_write_bright : (regsAfter (.wrBright 0x1FF) ready).map (·.bright) = some 0xFF := by decide
theorem test_write_bias : (regsAfter (.wrBias 0x00FE7F00) ready).map (·.bias) = some ⟨0, 127, 254⟩ := by decide
theorem test_write_dropped_while_busy : (regsAfter (.wrBase 0x300) atHigh).map (·.base) = some 0x100 := by decide
theorem test_write_read_only : exec (.wrRemain 7) ready = exec .nop ready := rfl

/-- 4.2: a zero-length START after `wr BIAS, 0xFFFFFFFF`: DSTATE 0x00FEFEFE, STATUS 0x50A. -/
theorem test_start_zero_length :
    (next? (exec (.wrCmdStart 1) (writeRegs (fun r => { r with count := 0, bias := ⟨255, 255, 255⟩ }) ready))).map
      (fun t => (packWord t.trav.d, t.statusWord)) = some (0x00FEFEFE, 0x50A) := by decide

/-- Section 5, cycle 2: START accepted, `st <- WAIT`, `remain <- COUNT`. -/
theorem test_start_one_pixel :
    (next? (exec (.wrCmdStart 1) ready)).map (fun t => (t.enc.st, t.trav.remain, t.trav.cursor, t.statusWord)) =
      some (.wait, 1, 0x100, 0x109) := by decide

/-! ### The encoder's steps (95_test_vectors.md section 5) -/

/-- Cycle 3: LoadByte(0) reads 0x100, `sr <- B0`. -/
theorem test_step_wait :
    (next? (exec .stepWait (atWait 20))).map (fun t => (t.enc.st, t.enc.sr, t.line, t.reads)) =
      some (.highBase, 0xB0, true, [0x100]) := by decide

/-- R183: in the cycle before, the governor holds the block. -/
theorem test_step_wait_holds : (next? (exec .nop (atWait 19))).map (fun t => (t.enc.st, t.gov.elapsed)) =
    some (.wait, 20) := by decide

/-- Cycle 5: `cb <- 1`, `sr <- 60`, `st <- HIGH_VAR`. -/
theorem test_step_high_base_last :
    (next? (exec .stepHighBase (atEnc { atHigh.enc with ph := 1 }))).map
      (fun t => (t.enc.st, t.enc.cb, t.enc.sr, t.line)) = some (.highVar, true, 0x60, true) := by decide

/-- Cycle 15: a 0 bit goes straight to LOW. -/
theorem test_step_high_base_zero_bit :
    (next? (exec .stepHighBase (atEnc { atHigh.enc with ph := 1, bitn := 1, sr := 0x60 }))).map
      (fun t => (t.enc.st, t.enc.cb, t.enc.sr, t.line)) = some (.low, false, 0xC0, false) := by decide

/-- Cycle 10: `ph = T2 − 1`, SetLow. -/
theorem test_step_high_var_last :
    (next? (exec .stepHighVar (atEnc { atHigh.enc with st := .highVar, ph := 4, sr := 0x60, cb := true }))).map
      (fun t => (t.enc.st, t.enc.ph, t.line)) = some (.low, 0, false) := by decide

/-- Cycle 13: EndOfBit. -/
theorem test_step_low_end_of_bit :
    (next? (exec .stepLow (atEnc { atHigh.enc with st := .low, ph := 2, sr := 0x60, cb := true }))).map
      (fun t => (t.enc.st, t.enc.bitn, t.line)) = some (.highBase, 1, true) := by decide

/-- Cycle 83: EndOfByte reads 0x101. -/
theorem test_step_low_end_of_byte :
    (next? (exec .stepLow (atEnc { Encoder.reset with st := .low, ph := 7, bitn := 7 }))).map
      (fun t => (t.enc.bitn, t.enc.slot, t.enc.sr, t.reads)) = some (0, 1, 0, [0x101]) := by decide

/-- Cycle 243: EndOfPixel and Finish. -/
theorem test_step_low_finish :
    (next? (exec .stepLow (atEnc { Encoder.reset with st := .low, ph := 2, bitn := 7, slot := 2, cb := true }))).map
      (fun t => (t.statusWord, t.trav.remain, t.trav.cursor, t.gov.elapsed)) = some (0x512, 0, 0x103, 0) := by decide

/-- R189: with a pixel left, the next byte is read at the advanced cursor. -/
theorem test_end_of_pixel_reads_ahead :
    (next? (exec .endOfPixel (atHigh.setTrav { atHigh.trav with remain := 2 }))).map
      (fun t => (t.enc.st, t.trav.remain, t.reads)) = some (.highBase, 1, [0x103]) := by decide

/-- The level of a cycle is recorded, and Mark's write of the counter wins over Tick's (section 7). -/
theorem test_cycle_mark_wins :
    (next? (exec .nop ((atEnc { Encoder.reset with st := .low, ph := 2, bitn := 7, slot := 2, cb := true }).setGov
      { marked := false, elapsed := 19 }))).map (fun t => (t.gov, t.trace)) =
      some ({ marked := true, elapsed := 0 }, [false]) := by decide

/-! ### The adjuster (95_test_vectors.md section 2) -/

theorem test_adjust_vectors :
    [adjustByte 255 0 254 true, adjustByte 200 0 17 false, adjustByte 0 77 200 true, adjustByte 255 255 254 true,
      adjustByte 1 1 254 true, adjustByte 1 254 0 true, adjustByte 255 254 1 true, adjustByte 100 128 250 true,
      adjustByte 100 128 250 false, adjustByte 128 128 190 true, adjustByte 128 128 191 true,
      adjustByte 37 200 99 true] =
      [⟨0, 254⟩, ⟨0, 17⟩, ⟨0, 200⟩, ⟨255, 254⟩, ⟨1, 0⟩, ⟨0, 254⟩, ⟨254, 1⟩, ⟨51, 45⟩, ⟨50, 250⟩, ⟨64, 254⟩,
        ⟨65, 0⟩, ⟨29, 104⟩] := by decide

theorem test_adjust_returns : returned (.adjust 100 128 250 true) ready = some (.adjusted 51 45) := by decide

theorem test_scale_vectors :
    [scaleValue 255 255, scaleValue 128 176, scaleValue 1 1, scaleValue 254 254, scaleValue 16 200, scaleValue 2 128] =
      [255, 88, 0, 253, 12, 1] := by decide

theorem test_scale_returns : returned (.scale 1) ready = some (.byte 255) := by decide

/-! ### The traversal (95_test_vectors.md section 3) -/

/-- The registers of a traversal vector. -/
def trav (base count advance laneOff : Word) (order : WireOrder) : Regs :=
  { Regs.reset with base := base, count := count, advance := advance, laneOff := laneOff, order := order }

theorem test_cursor0 :
    [cursor0 (trav 0x1000 3 1 0 .rgb), cursor0 (trav 0x1000 3 0xFFFFFFFF 0 .rgb),
      cursor0 (trav 0x1000 0 0xFFFFFFFF 0 .rgb), cursor0 (trav 0x1000 4 0xFFFFFFFE 0 .rgb),
      cursor0 (trav 0 2 0xFFFFFFFF 0 .rgb), cursor0 (trav 0x1000 3 0x80000000 0 .rgb)] =
      [0x1000, 0x1006, 0x1000, 0x1012, 3, 0x1000] := by decide

theorem test_read_list_reverse_grb :
    readList (trav 0x1000 3 0xFFFFFFFF 0 .grb) 3 =
      [0x1007, 0x1006, 0x1008, 0x1004, 0x1003, 0x1005, 0x1001, 0x1000, 0x1002] := by decide

theorem test_read_list_wraps :
    readList (trav 0xFFFFFFFE 1 1 0 .bgr) 1 = [0, 0xFFFFFFFF, 0xFFFFFFFE] ∧
    readList (trav 0x1000 2 2 3 .rgb) 2 = [0x1003, 0x1004, 0x1005, 0x1009, 0x100A, 0x100B] := by decide

/-- R165's example: `mem(0x1007) = 100`, scale 128, slot 0 of GRB, dither on. -/
theorem test_load_byte :
    let s := State.resetWith p2 [(0x1007, 100)] []
    let s := s.setRegs { s.regs with ditherEn := true, order := .grb, bright := 128 }
    (next? (exec (.loadByte 0) (s.setTrav { s.trav with cursor := 0x1006, remain := 1 }))).map
      (fun t => (t.enc.sr, t.trav.d, t.reads)) = some (50, ⟨0, 50, 0⟩, [0x1007]) := by decide

theorem test_construct :
    (next? (exec .construct (ready.setRegs { ready.regs with bias := ⟨0, 127, 255⟩ }))).map (·.trav) =
      some { cursor := 0x100, remain := 1, d := ⟨0, 127, 254⟩ } := by decide

theorem test_advance_and_has :
    (next? (exec .advancePixel (atHigh.setRegs { atHigh.regs with advance := 0xFFFFFFFF }))).map
      (fun t => (t.trav.cursor, t.trav.remain)) = some (0xFD, 0) ∧
    returned (.has 2) atHigh = some (.flag false) := by decide

/-! ### Governor, pin, wire, pseudo-operations -/

theorem test_tick_saturates :
    (next? (exec .tick (atWait 20))).map (·.gov.elapsed) = some 20 ∧
    (next? (exec .tick (atWait 19))).map (·.gov.elapsed) = some 20 := by decide

theorem test_wait_returns : returned .wait (atWait 19) = some (.flag false) := by decide
theorem test_mark : (next? (exec .mark ready)).map (·.gov) = some { marked := true, elapsed := 0 } := by decide
theorem test_toggle : (next? (exec .toggle atHigh)).map (·.line) = some false := by decide
theorem test_set_low : (next? (exec .setLow atHigh)).map (·.line) = some false := by decide

/-- Section 6, `(2, 5, 3)`: BIT0 is 1×2 0×8, BIT1 is 1×7 0×3. -/
theorem test_symbols :
    (next? (exec .bit0 ready)).map (·.trace.reverse) =
      some [true, true, false, false, false, false, false, false, false, false] ∧
    (next? (exec .bit1 ready)).map (·.trace.reverse) =
      some [true, true, true, true, true, true, true, false, false, false] := by decide

theorem test_poll_again : (next? (exec .pseudoPoll atHigh)).map (·.host) = some [⟨[], .poll⟩] := by decide
theorem test_poll_stops : (next? (exec .pseudoPoll ready)).map (·.host) = some [] := by decide

theorem test_show_expands :
    (next? (exec (.pseudoShow 0x100 3) ready)).map (·.host) =
      some [⟨[], .word 0xD000000003⟩, ⟨[], .word 0xC000000001⟩, ⟨[], .poll⟩] := by decide

theorem test_has : returned (.pseudoHas 1) atHigh = some (.flag true) := by decide

/-! ### The step -/

theorem test_step_runs_fetched_word :
    (next? (step ((State.resetWith p2 [] []).withFetchWord 40 0xCC00000100))).map (·.regs.base) = some 0x100 := by
  decide

theorem test_step_runs_state_code :
    (next? (step ((State.resetWith p2 [] []).withFetchWord 3 2))).map (fun t => (t.enc.st, t.enc.ph)) =
      some (.highBase, 1) := by decide

/-- A store of the host lands before the read of its cycle (R70, R256). -/
theorem test_store_is_seen :
    (next? (step ((atWait 20).setHost [⟨[(0x100, 0x55)], .word 0⟩]))).map (·.enc.sr) = some 0x55 := by decide

/-- R252: reset in mid-frame. -/
theorem test_reset_input :
    (next? (step (atHigh.setHost [⟨[], .reset⟩]))).map (fun t => (t.enc.st, t.line, t.gov.marked, t.trace)) =
      some (.idle, false, false, [false]) := by decide

/-! ### Witnesses: the hypotheses of the statements can be met -/

/-- The host program of a frame, with writes and a poll while the block is busy. -/
def frameHost : List HostCycle :=
  [⟨[], .word 0xC000000001⟩, ⟨[], .word 0xCC00000300⟩, ⟨[], .word 0x8800000000⟩, ⟨[], .poll⟩]

theorem witness_step_runs_word :
    ∃ s : State, s.host = ⟨[(0x100, 1)], .word 0xD000000003⟩ :: [] ∧
      decode .ht (0xD000000003#40).toNat = .ok (.wrCount 3) := ⟨ready.setHost _, rfl, by rfl⟩

theorem witness_step_runs_lines :
    (∃ s : State, s.host = ⟨[], .start⟩ :: []) ∧ (∃ s : State, s.host = ⟨[], .poll⟩ :: []) ∧
    (∃ s : State, s.host = ⟨[], .has 2⟩ :: []) ∧ (∃ s : State, s.host = ⟨[], .showFrame 0x100 3⟩ :: []) ∧
    ∃ s : State, s.host = [] :=
  ⟨⟨ready.setHost _, rfl⟩, ⟨ready.setHost _, rfl⟩, ⟨ready.setHost _, rfl⟩, ⟨ready.setHost _, rfl⟩, ⟨ready, rfl⟩⟩

theorem witness_encoded_operation :
    (Instr.wrRsvd38 0x3C 0xFFFFFFFF).wellFormed = true ∧
    encode (.wrRsvd38 0x3C 0xFFFFFFFF) = some (.ht, 0xFCFFFFFFFF) ∧
    (Instr.adjust 1 1 254 true).wellFormed = true ∧ encode (.adjust 1 1 254 true) = none := by decide

theorem witness_built_instance : RawParams.build? ⟨2, 5, 3, 20⟩ = some p2 ∧ RawParams.build? ⟨1, 0, 1, 0⟩ ≠ none := by
  decide

theorem witness_reset_input : (atHigh.setHost [⟨[], .reset⟩]).host = ⟨[], .reset⟩ :: [] := rfl

theorem witness_resting : Resting ready := by decide

theorem witness_start_accepted_and_dropped : Resting ready ∧ ¬ Resting atHigh := by decide

theorem witness_cfg_codes :
    BitVec.extractLsb' 4 3 (0x50 : Word) ≤ 5#3 ∧ 5#3 < BitVec.extractLsb' 4 3 (0x60 : Word) := by decide

theorem witness_wait_step :
    ¬ GapHolds (atWait 19) ∧ GapHolds (atWait 20) ∧ (atWait 20).trav.remain ≠ 0 ∧
    GapHolds ((atWait 20).setTrav Traversal.reset) ∧ ((atWait 20).setTrav Traversal.reset).trav.remain = 0 := by decide

theorem witness_high_base_step :
    atHigh.enc.ph.toNat < atHigh.params.T1 - 1 ∧
    ¬ (atEnc { atHigh.enc with ph := 1 }).enc.ph.toNat < atHigh.params.T1 - 1 := by decide

theorem witness_high_var_step :
    (atEnc { atHigh.enc with st := .highVar, ph := 3 }).enc.ph.toNat < p2.T2 - 1 ∧
    ¬ (atEnc { atHigh.enc with st := .highVar, ph := 4 }).enc.ph.toNat < p2.T2 - 1 := by decide

/-- For each clause of the step in LOW, a state that meets its premises. -/
theorem witness_low_step :
    (let s := atEnc { Encoder.reset with st := .low, ph := 6 }
     s.enc.ph.toNat < (if s.enc.cb = true then s.params.T3 else s.params.T2 + s.params.T3) - 1) ∧
    (let s := atEnc { Encoder.reset with st := .low, ph := 7, bitn := 6 }
     ¬ s.enc.ph.toNat < (if s.enc.cb = true then s.params.T3 else s.params.T2 + s.params.T3) - 1 ∧
       s.enc.bitn.toNat < 7) ∧
    (let s := atEnc { Encoder.reset with st := .low, ph := 2, bitn := 7, slot := 1, cb := true }
     ¬ s.enc.ph.toNat < (if s.enc.cb = true then s.params.T3 else s.params.T2 + s.params.T3) - 1 ∧
       s.enc.bitn.toNat = 7 ∧ s.enc.slot.val < 2) ∧
    (let s := atEnc { Encoder.reset with st := .low, ph := 2, bitn := 7, slot := 2, cb := true }
     ¬ s.enc.ph.toNat < (if s.enc.cb = true then s.params.T3 else s.params.T2 + s.params.T3) - 1 ∧
       s.enc.bitn.toNat = 7 ∧ s.enc.slot.val = 2) := by decide

theorem witness_end_of_bit_and_byte :
    (atEnc { atHigh.enc with bitn := 6 }).enc.bitn.toNat < 7 ∧ (atEnc { atHigh.enc with slot := 1 }).enc.slot.val < 2 := by
  decide

theorem witness_end_of_pixel :
    atHigh.trav.remain = 1 ∧ (atHigh.setTrav { atHigh.trav with remain := 2 }).trav.remain ≠ 0 ∧
    (atHigh.setTrav { atHigh.trav with remain := 2 }).trav.remain ≠ 1 := by decide

/-- For each clause of Adjust, operands at its boundary: `t = 255` and `t = 254`. -/
theorem witness_adjust :
    (254 : Byte).toNat ≤ 254 ∧ (128 : Byte) ≠ 0 ∧
    255 ≤ (191 : Byte).toNat + (128 : Byte).toNat * (128 : Byte).toNat % 255 ∧
    (190 : Byte).toNat + (128 : Byte).toNat * (128 : Byte).toNat % 255 < 255 := by decide

theorem witness_dither : (254 : Byte) ≠ 0 ∧ (254 : Byte).toNat ≤ 254 := by decide

theorem witness_scale : ready.regs.corr.get 2 = 255 ∧ ready.regs.bright = 255 := by decide

theorem witness_advance : atHigh.trav.remain ≠ 0 := by decide

theorem witness_reverse :
    (trav 0x1000 3 0xFFFFFFFF 0 .rgb).advance.toInt < 0 ∧ 2 < (trav 0x1000 3 0xFFFFFFFF 0 .rgb).count.toNat := by
  decide

theorem witness_governor_counter : (atWait 20).gov.elapsed.toNat ≤ (atWait 20).params.WAIT_TIME := by decide

theorem witness_operation_answers : ∃ t, exec (.wrBase 7) atHigh = .next t ∧ ¬ Resting atHigh := ⟨_, rfl, by decide⟩

theorem witness_host_operation : ∃ t u, isHost (.wrCfg 1) = true ∧ exec .nop ready = .next u ∧
    exec (.wrCfg 1) ready = .next t := ⟨_, _, by decide, rfl, rfl⟩

theorem witness_host_clause_not_start : ∀ w : Word, Instr.wrCfg 1 ≠ Instr.wrCmdStart w := by
  intro w h
  cases h

theorem witness_host_clause_busy : ¬ Resting atHigh := by decide

/-- For each clause of the reserved and misaligned offsets, an offset at its boundary. -/
theorem witness_offsets :
    ((0x3C : Offset) = 0x38 ∨ (0x3C : Offset) = 0x3C) ∧ (0x3F : Offset).getLsbD 0 = true ∧
    (0x3E : Offset).getLsbD 0 = false ∧ (0x3E : Offset).getLsbD 1 = true := by decide

theorem witness_cmd_bit : (1 : Word).getLsbD 0 = true ∧ (0xFFFFFFFE : Word).getLsbD 0 = false := by decide

/-- The last HIGH_BASE cycle of a 1 bit enters HIGH_VAR. -/
theorem witness_enters_high_var :
    let s := atEnc { atHigh.enc with ph := 1 }
    s.enc.st ≠ .highVar ∧ ∃ t, exec .stepHighBase s = .next t ∧ t.enc.st = .highVar :=
  ⟨by decide, _, rfl, by decide⟩

theorem witness_bijection : ∀ j k : Slot, (fun i : Slot => (i : Channel)) j = (fun i : Slot => (i : Channel)) k → j = k := by
  decide

theorem witness_write_while_busy :
    encode (.wrCfg 1) = some (.ht, 0xC400000001) ∧ (0xC400000001).testBit 39 = true ∧
    (0xC400000001).testBit 38 = true ∧ ¬ Resting atHigh := by decide

theorem witness_read : encode .rdStatus = some (.ht, 0x8800000000) ∧ (0x8800000000).testBit 39 = true ∧
    (0x8800000000).testBit 38 = false := by decide

theorem witness_canonical_memory : Memory.wf mem1 = true ∧ Memory.wf [] = true := by decide

theorem witness_invariants_high : Inv atHigh ∧ InSequence atHigh := ⟨by decide, by decide⟩

theorem witness_invariants_wait : Inv (atWait 2) ∧ InSequence (atWait 2) := ⟨by decide, by decide⟩

theorem witness_invariants_idle : Inv ready ∧ InSequence ready := ⟨by decide, by decide⟩

theorem witness_invariant_step : ∃ t, Inv atHigh ∧ InSequence atHigh ∧ step atHigh = .next t :=
  ⟨_, by decide, by decide, rfl⟩

theorem witness_one_bit :
    atHigh.enc.st = .highBase ∧ atHigh.enc.ph = 0 ∧ atHigh.enc.bitn = 0 ∧ atHigh.line = true ∧
    ∀ c ∈ (atHigh.setHost frameHost).host, c.input ≠ .reset := by decide

/-- The first two `HostCycle`s after the START are a dropped write and a read. -/
theorem witness_one_frame :
    Inv (ready.setHost frameHost) ∧ Resting (ready.setHost frameHost) ∧ ready.regs.count ≠ 0 ∧
    decodeTransaction 0xC000000001 = .wrCmdStart 1 ∧
    (ready.setHost frameHost).host = ⟨[], .word 0xC000000001⟩ :: frameHost.tail ∧
    ∀ c ∈ frameHost.tail, c.keepsContract := by decide

theorem witness_zero_length :
    let z := (ready.setRegs { ready.regs with count := 0 }).setHost frameHost
    let z' := (ready.setRegs { ready.regs with count := 0, zlp := true }).setHost frameHost
    Inv z ∧ Inv z' ∧ Resting z ∧ Resting z' ∧ z.regs.count = 0 ∧ z'.regs.count = 0 ∧ z.regs.zlp = false ∧
      z'.regs.zlp = true := by decide

theorem witness_wait_lasts :
    (atWait 2).enc.st = .wait ∧ (atWait 2).gov.marked = true ∧
    (atWait 2).gov.elapsed.toNat ≤ (atWait 2).params.WAIT_TIME ∧
    ∀ c ∈ ((atWait 2).setHost frameHost).host, c.input ≠ .reset := by decide

theorem witness_reset_gap :
    let s := (((atEnc { Encoder.reset with st := .done }).setTrav Traversal.reset).setGov
      { marked := true, elapsed := 0 }).setHost frameHost
    Inv s ∧ Resting s ∧ s.gov.marked = true ∧ (∀ c ∈ s.host, c.input ≠ .reset) ∧
      20 ≤ s.params.WAIT_TIME - s.gov.elapsed.toNat := by decide

theorem witness_resting_gap :
    Resting (ready.setHost [wordCycle 0, wordCycle 0x8800000000]) ∧
    ∀ c ∈ (ready.setHost [wordCycle 0, wordCycle 0x8800000000]).host, c.passive := by
  refine ⟨by decide, ?_⟩
  intro c hc
  rcases List.mem_cons.mp hc with rfl | hc
  · exact ⟨rfl, 0, rfl, .inl (by decide)⟩
  · rcases List.mem_cons.mp hc with rfl | hc
    · exact ⟨rfl, 0x8800000000, rfl, .inr (by decide)⟩
    · exact absurd hc (by simp)

/-- Two hosts, one silent and one busy with writes, a START and a poll, over one cycle of a running frame. -/
theorem witness_undisturbed :
    hideHost atHigh = hideHost (atHigh.setHost frameHost) ∧
    (∀ c ∈ atHigh.host, c.keepsContract) ∧ (∀ c ∈ (atHigh.setHost frameHost).host, c.keepsContract) ∧
    ∀ k, k < 1 → ∀ u, steps k atHigh = .next u → ¬ Resting u := by
  refine ⟨rfl, by decide, by decide, ?_⟩
  intro k hk u hu
  obtain rfl : k = 0 := by omega
  cases hu
  decide

theorem witness_poll :
    Inv (atHigh.setHost [⟨[], .poll⟩]) ∧ InSequence (atHigh.setHost [⟨[], .poll⟩]) ∧
    (atHigh.setHost [⟨[], .poll⟩]).host = ⟨[], .poll⟩ :: [] := by decide

end Sys2Proof.Tests
end

namespace Sys2Proof.Machine

open Sys2Proof.Claims

/-! ### The encoder's step and the governor (R190, R236) -/

/-- From `s` the transition `f` either ends in `Finish`, whose Mark overwrites whatever the governor held, or does not
end there, and then takes the governor along without looking at it. -/
def MarksOrCarries (f : State → State) (s : State) : Prop :=
  ∀ g, ((f s).enc.st = .done ∧ f (s.setGov g) = f s) ∨ ((f s).enc.st ≠ .done ∧ f (s.setGov g) = (f s).setGov g)

/-- A choice by a condition that the governor does not enter. -/
theorem MarksOrCarries.ite {c : State → Prop} [∀ s, Decidable (c s)] {f₁ f₂ : State → State} {s : State}
    (hc : ∀ g, c (s.setGov g) ↔ c s) (h₁ : c s → MarksOrCarries f₁ s) (h₂ : ¬ c s → MarksOrCarries f₂ s) :
    MarksOrCarries (fun s => if c s then f₁ s else f₂ s) s := by
  intro g
  by_cases h : c s
  · simpa only [hc, h, if_true] using h₁ h g
  · simpa only [hc, h, if_false] using h₂ h g

theorem finish_marksOrCarries (s : State) : MarksOrCarries finish s := fun _ => .inl ⟨rfl, rfl⟩

theorem nextPhase_marksOrCarries {s : State} (h : s.enc.st ≠ .done) : MarksOrCarries State.nextPhase s :=
  fun _ => .inr ⟨h, rfl⟩

theorem endOfBit_marksOrCarries (s : State) : MarksOrCarries endOfBit s := fun _ => .inr ⟨nofun, rfl⟩

theorem endOfByte_marksOrCarries (s : State) : MarksOrCarries endOfByte s := fun _ => .inr ⟨nofun, rfl⟩

/-- `EndOfPixel` marks exactly when no pixel remains (R189). -/
theorem endOfPixel_marksOrCarries (s : State) : MarksOrCarries endOfPixel s :=
  .ite (fun _ => .rfl) (fun _ _ => .inl ⟨rfl, rfl⟩) (fun _ _ => .inr ⟨nofun, rfl⟩)

theorem stepWait_marksOrCarries (gap : Bool) {s : State} (h : s.enc.st ≠ .done) : MarksOrCarries (stepWait gap) s :=
  .ite (fun _ => .rfl)
    (fun _ => .ite (fun _ => .rfl) (fun _ => finish_marksOrCarries s) (fun _ _ => .inr ⟨nofun, rfl⟩))
    (fun _ _ => .inr ⟨h, rfl⟩)

theorem stepHighBase_marksOrCarries {s : State} (h : s.enc.st ≠ .done) : MarksOrCarries stepHighBase s :=
  .ite (fun _ => .rfl) (fun _ => nextPhase_marksOrCarries h)
    (fun _ => .ite (fun _ => .rfl) (fun _ _ => .inr ⟨nofun, rfl⟩) (fun _ _ => .inr ⟨nofun, rfl⟩))

theorem stepHighVar_marksOrCarries {s : State} (h : s.enc.st ≠ .done) : MarksOrCarries stepHighVar s :=
  .ite (fun _ => .rfl) (fun _ => nextPhase_marksOrCarries h) (fun _ _ => .inr ⟨nofun, rfl⟩)

/-- The end of a low part marks only through `EndOfPixel` (R186). -/
theorem stepLow_marksOrCarries {s : State} (h : s.enc.st ≠ .done) : MarksOrCarries stepLow s :=
  .ite (fun _ => .rfl) (fun _ => nextPhase_marksOrCarries h)
    (fun _ => .ite (fun _ => .rfl) (fun _ => endOfBit_marksOrCarries (s.setEnc _))
      (fun _ => .ite (fun _ => .rfl) (fun _ => endOfByte_marksOrCarries (s.setEnc _))
        (fun _ => endOfPixel_marksOrCarries (s.setEnc _))))

/-- A resting encoder does nothing (R182). -/
theorem encoderStep_resting (gap : Bool) {s : State} (h : Resting s) : encoderStep gap s = s := by
  rcases h with h | h <;> simp [encoderStep, stepResting, h]

/-- Each of the four busy states steps to `Finish` or takes the governor along (R183 to R186). -/
theorem encoderStep_marksOrCarries (gap : Bool) {s : State} (h : ¬ Resting s) :
    MarksOrCarries (encoderStep gap) s := by
  intro g
  have hdone : s.enc.st ≠ .done := fun hd => h (.inr hd)
  cases hst : s.enc.st with
  | idle => exact absurd (.inl hst) h
  | wait => simpa [encoderStep, hst] using stepWait_marksOrCarries gap hdone g
  | highBase => simpa [encoderStep, hst] using stepHighBase_marksOrCarries hdone g
  | highVar => simpa [encoderStep, hst] using stepHighVar_marksOrCarries hdone g
  | low => simpa [encoderStep, hst] using stepLow_marksOrCarries hdone g
  | done => exact absurd hst hdone

/-- The step after a write of the governor is the step before it with that write, but that Mark's write wins
(R236). -/
theorem encoderStep_setGov (gap : Bool) (s : State) (g : Governor) :
    encoderStep gap (s.setGov g) =
      (encoderStep gap s).setGov
        (if (encoderStep gap s).enc.st = .done ∧ ¬ Resting s then (encoderStep gap s).gov else g) := by
  by_cases hr : Resting s
  · have hrg : Resting (s.setGov g) := hr
    rw [encoderStep_resting gap hrg, encoderStep_resting gap hr, if_neg (fun h => h.2 hr)]
  · rcases encoderStep_marksOrCarries gap hr g with ⟨hdone, hmarks⟩ | ⟨hdone, hcarries⟩
    · rw [if_pos ⟨hdone, hr⟩, hmarks]
      rfl
    · rw [if_neg (fun h => hdone h.1), hcarries]

/-- The row of a state's step runs the encoder's step in that state, with the `gap_ok` of that state (R94). -/
theorem exec_stepOp (s : State) : exec (stepOp s.enc.st) s = .next (encoderStep s.gapOk s) := by
  cases hst : s.enc.st <;> simp only [encoderStep, hst] <;> rfl

/-- Tick writes the governor alone, so the block's step is the encoder's step on the state during the cycle with that
write, but that Mark's write wins (R12, R236). -/
theorem blockStep_eq_setGov (s : State) :
    blockStep s =
      (encoderStep s.gapOk s).setGov
        (if (encoderStep s.gapOk s).enc.st = .done ∧ ¬ Resting s then (encoderStep s.gapOk s).gov
          else (tick s).gov) :=
  encoderStep_setGov s.gapOk s (tickGovernor s.params s.gov)

end Sys2Proof.Machine

/-! ### The build-time assertion (R8, R231) -/

namespace Sys2Proof

theorem RawParams.build?_eq_none_iff (q : RawParams) : q.build? = none ↔ ¬ q.WF := by
  simp [RawParams.build?]

/-- A built instance has the numbers it was built from: `T1` and `T3`, held less one, are at least 1. -/
theorem RawParams.build?_numbers {q : RawParams} {p : Params} (h : q.build? = some p) :
    p.T1 = q.T1.toNat ∧ p.T2 = q.T2.toNat ∧ p.T3 = q.T3.toNat ∧ p.WAIT_TIME = q.WAIT_TIME.toNat := by
  unfold RawParams.build? at h
  split at h
  next hwf =>
    obtain ⟨hT1, hT3⟩ := hwf
    cases h
    exact ⟨Nat.sub_add_cancel hT1, rfl, Nat.sub_add_cancel hT3, rfl⟩
  next => cases h

end Sys2Proof

/-! ### The obligations of 00_scope.md -/

namespace Sys2Proof.Claims

open Sys2Proof.Machine

/-- Settles O6, by `blockStep_eq_setGov`: the cycle adds the record of the level and clears the port's answer. -/
theorem cycleIsTickThenEncoderStep : Obligations.CycleIsTickThenEncoderStep := by
  intro s
  refine ⟨tick s, encoderStep s.gapOk s, rfl, exec_stepOp s, ?_⟩
  obtain ⟨-, -, -, -, -, -, htrace⟩ := encoderStep_env s.gapOk s
  change Host.Outcome.next (cycle s) = _
  rw [cycle, blockStep_eq_setGov, ← htrace]
  rfl

/-- Settles O8: an instance is built exactly when the assertion holds, and from the numbers given. -/
theorem onlyWellFormedInstancesExist : Obligations.OnlyWellFormedInstancesExist :=
  fun q => ⟨q.build?_eq_none_iff, fun _ => RawParams.build?_numbers⟩

end Sys2Proof.Claims

namespace Sys2Proof.Machine

/-! ### What a step can do (R12, R80, R100, R101, R250) -/

/-- What one cycle from `s` can leave: the block's own cycle, with an accepted write of the configuration or an
accepted START on top of it while the block rests, or the reset cycle; and the answers and the host's coming cycles at
any value. -/
inductive AfterCycle (s : State) : State → Prop
  | quiet : AfterCycle s (cycle s)
  | write (hrest : s.busy = false) (f : Regs → Regs) : AfterCycle s (writeRegs f (cycle s))
  | start (hrest : s.busy = false) : AfterCycle s (startFrame (cycle s))
  | reset : AfterCycle s s.resetCycle
  | setRdata {t : State} (h : AfterCycle s t) (w : Option Word) : AfterCycle s (t.setRdata w)
  | setRet {t : State} (h : AfterCycle s t) (r : ProcResult) : AfterCycle s (t.setRet r)
  | setHost {t : State} (h : AfterCycle s t) (l : List HostCycle) : AfterCycle s (t.setHost l)

theorem AfterCycle.readCycle (w : Word) (s : State) : AfterCycle s (readCycle w s) := .setRdata .quiet (some w)

theorem AfterCycle.writeRegsCycle (f : Regs → Regs) (s : State) : AfterCycle s (writeCycle (writeRegs f) s) := by
  cases hb : s.busy with
  | false => rw [writeCycle_resting _ hb]; exact .write hb f
  | true => rw [writeCycle_busy _ hb]; exact .quiet

theorem AfterCycle.startCycle (s : State) : AfterCycle s (writeCycle startFrame s) := by
  cases hb : s.busy with
  | false => rw [writeCycle_resting _ hb]; exact .start hb
  | true => rw [writeCycle_busy _ hb]; exact .quiet

/-- An operation that takes one cycle of the block, with what the host's side of the port may add to it. -/
def TakesACycle (i : Instr) : Prop := ∀ s, ∃ t, AfterCycle s t ∧ exec i s = .next t

namespace TakesACycle

/-- A choice between two such operations. -/
theorem ite {c : Prop} [Decidable c] {i j : Instr} (hi : TakesACycle i) (hj : TakesACycle j) :
    TakesACycle (if c then i else j) := by
  split
  · exact hi
  · exact hj

theorem of_cycle {i : Instr} (h : ∀ s, exec i s = .next (cycle s)) : TakesACycle i :=
  fun s => ⟨_, .quiet, h s⟩

theorem of_readCycle {i : Instr} {w : State → Word} (h : ∀ s, exec i s = .next (readCycle (w s) s)) :
    TakesACycle i :=
  fun s => ⟨_, .readCycle (w s) s, h s⟩

theorem of_writeRegs {i : Instr} {f : Regs → Regs} (h : ∀ s, exec i s = .next (writeCycle (writeRegs f) s)) :
    TakesACycle i :=
  fun s => ⟨_, .writeRegsCycle f s, h s⟩

theorem of_startFrame {i : Instr} (h : ∀ s, exec i s = .next (writeCycle startFrame s)) : TakesACycle i :=
  fun s => ⟨_, .startCycle s, h s⟩

end TakesACycle

/-- A read at any offset is a cycle with an answer (R100, R126). -/
theorem takesACycle_decodeRead (off : Offset) : TakesACycle (decodeRead off) := by
  repeat' apply TakesACycle.ite
  all_goals exact .of_readCycle fun _ => rfl

/-- A write at any offset. In the order of `decodeWrite`: the misaligned ones, the two of `CMD`, `CFG`, `STATUS`, the
seven other configuration registers, the three read-only ones and the reserved ones (R101 to R126). -/
theorem takesACycle_decodeWrite (off : Offset) (wdata : Word) : TakesACycle (decodeWrite off wdata) :=
  .ite (.of_cycle fun _ => rfl) <| .ite (.of_cycle fun _ => rfl) <|
  .ite (.ite (.of_startFrame fun _ => rfl) (.of_cycle fun _ => rfl)) <|
  .ite (.of_writeRegs fun _ => rfl) <| .ite (.of_cycle fun _ => rfl) <|
  .ite (.of_writeRegs fun _ => rfl) <| .ite (.of_writeRegs fun _ => rfl) <| .ite (.of_writeRegs fun _ => rfl) <|
  .ite (.of_writeRegs fun _ => rfl) <| .ite (.of_writeRegs fun _ => rfl) <| .ite (.of_writeRegs fun _ => rfl) <|
  .ite (.of_writeRegs fun _ => rfl) <|
  .ite (.of_cycle fun _ => rfl) <| .ite (.of_cycle fun _ => rfl) <| .ite (.of_cycle fun _ => rfl) <|
  .ite (.of_cycle fun _ => rfl) (.of_cycle fun _ => rfl)

theorem takesACycle_decodeTransaction (w : Transaction) : TakesACycle (decodeTransaction w) :=
  .ite (.ite (takesACycle_decodeWrite _ _) (takesACycle_decodeRead _)) (.of_cycle fun _ => rfl)

/-- Whatever operation the host's input stands for takes one cycle (R92, R93). -/
theorem takesACycle_of_instr? {input : HostInput} {i : Instr} (h : input.instr? = some i) : TakesACycle i := by
  cases input with
  | word ht => cases h; exact takesACycle_decodeTransaction ht
  | start => cases h; exact .of_startFrame fun _ => rfl
  | poll =>
    cases h
    intro s
    refine ⟨_, ?_, rfl⟩
    split
    · exact .setHost (.readCycle _ s) _
    · exact .readCycle _ s
  | has n => cases h; exact fun s => ⟨_, .setRet (.readCycle _ s) _, rfl⟩
  | showFrame base n => cases h; exact fun s => ⟨_, .setHost (.writeRegsCycle _ s) _, rfl⟩
  | reset => cases h

/-- A step is one cycle from the state in which the host's stores have landed (R11, R12). -/
theorem afterCycle_of_step {s t : State} (h : step s = .next t) : AfterCycle (fetched s) t := by
  unfold step at h
  split at h
  next hnil =>
    cases h
    simpa only [fetched, hnil] using AfterCycle.quiet
  next c rest hcons =>
    split at h
    next i hi =>
      obtain ⟨t', ht', hexec⟩ := takesACycle_of_instr? hi (fetched s)
      cases h.symm.trans hexec
      exact ht'
    next =>
      cases h
      exact .reset

/-- The host's stores and the cycle taken off its list change the memory, which stays canonical, and the host's list
(R71; logs 2 and 7). -/
theorem fetched_eq (s : State) :
    ∃ m l, fetched s = (s.setMem m).setHost l ∧ (Memory.wf s.mem = true → Memory.wf m = true) := by
  unfold fetched
  split
  next => exact ⟨s.mem, s.host, rfl, id⟩
  next c rest _ => exact ⟨_, _, rfl, Memory.wf_writeAll⟩

/-! ### What the encoder's step can do (R182 to R186) -/

/-- The number of cycles of the phase a sending encoder is in (R42, R184 to R186). -/
def phaseLength (p : Params) (e : Encoder) : Nat :=
  match e.st with
  | .idle | .wait | .done => 0
  | .highBase => p.T1
  | .highVar => p.T2
  | .low => lowLen p e.cb

/-- The current phase is in its last cycle. -/
abbrev LastPhaseCycle (s : State) : Prop := ¬ s.enc.ph.toNat < phaseLength s.params s.enc - 1

/-- The phase counter starts over. -/
def restartPhase (s : State) : State := s.setEnc { s.enc with ph := 0 }

/-- The bit is tested and shifted out (R184). -/
def testBit (s : State) : State :=
  s.setEnc { s.enc with cb := s.enc.sr.getLsbD 7, sr := s.enc.sr <<< 1, ph := 0 }

/-- The pixel is left and the bit and slot counters start over (R189). -/
def leavePixel (s : State) : State := advancePixel (s.setEnc { s.enc with bitn := 0, slot := 0 })

/-- The transitions of the Protocol State Machine, each with its guards; `gap` is `gap_ok` of the cycle. -/
inductive EncoderMove (gap : Bool) (s : State) : State → Prop
  | rest (hrest : s.busy = false) : EncoderMove gap s s
  | awaitGap (hst : s.enc.st = .wait) (hgap : gap = false) : EncoderMove gap s s
  | finishEmpty (hst : s.enc.st = .wait) (hgap : gap = true) (hrem : s.trav.remain = 0) : EncoderMove gap s (finish s)
  | firstByte (hst : s.enc.st = .wait) (hgap : gap = true) (hrem : s.trav.remain ≠ 0) :
      EncoderMove gap s (beginBit (restartPhase (loadByte 0 s)))
  | samePhase (hst : s.enc.st.sending = true) (hph : s.enc.ph.toNat < phaseLength s.params s.enc - 1) :
      EncoderMove gap s s.nextPhase
  | toHighVar (hst : s.enc.st = .highBase) (hph : LastPhaseCycle s) (hbit : s.enc.sr.getLsbD 7 = true)
      (hT2 : 1 ≤ s.params.T2) : EncoderMove gap s ((testBit s).goto .highVar)
  | baseToLow (hst : s.enc.st = .highBase) (hph : LastPhaseCycle s)
      (hbit : ¬ (s.enc.sr.getLsbD 7 = true ∧ 1 ≤ s.params.T2)) : EncoderMove gap s (beginLow (testBit s))
  | varToLow (hst : s.enc.st = .highVar) (hph : LastPhaseCycle s) : EncoderMove gap s (beginLow (restartPhase s))
  | nextBit (hst : s.enc.st = .low) (hph : LastPhaseCycle s) (hbit : s.enc.bitn.toNat < 7) :
      EncoderMove gap s (endOfBit (restartPhase s))
  | nextByte (hst : s.enc.st = .low) (hph : LastPhaseCycle s) (hbit : s.enc.bitn.toNat = 7)
      (hslot : s.enc.slot.val < 2) : EncoderMove gap s (endOfByte (restartPhase s))
  | nextPixel (hst : s.enc.st = .low) (hph : LastPhaseCycle s) (hbit : s.enc.bitn.toNat = 7)
      (hslot : s.enc.slot.val = 2) (hrem : s.trav.remain - 1 ≠ 0) :
      EncoderMove gap s (beginBit (loadByte 0 (leavePixel (restartPhase s))))
  | lastPixel (hst : s.enc.st = .low) (hph : LastPhaseCycle s) (hbit : s.enc.bitn.toNat = 7)
      (hslot : s.enc.slot.val = 2) (hrem : s.trav.remain - 1 = 0) :
      EncoderMove gap s (finish (leavePixel (restartPhase s)))

theorem stepWait_move (gap : Bool) {s : State} (hst : s.enc.st = .wait) : EncoderMove gap s (stepWait gap s) := by
  unfold stepWait
  split
  next hgap =>
    split
    next hrem => exact .finishEmpty hst hgap hrem
    next hrem => exact .firstByte hst hgap hrem
  next hgap => exact .awaitGap hst (Bool.eq_false_iff.mpr hgap)

theorem stepHighBase_move (gap : Bool) {s : State} (hst : s.enc.st = .highBase) :
    EncoderMove gap s (stepHighBase s) := by
  have hlen : phaseLength s.params s.enc = s.params.T1 := by rw [phaseLength, hst]
  unfold stepHighBase
  rw [← hlen]
  split
  next hph => exact .samePhase (by rw [hst]; rfl) hph
  next hph =>
    dsimp only
    split
    next hbit => exact .toHighVar hst hph hbit.1 hbit.2
    next hbit => exact .baseToLow hst hph hbit

theorem stepHighVar_move (gap : Bool) {s : State} (hst : s.enc.st = .highVar) :
    EncoderMove gap s (stepHighVar s) := by
  have hlen : phaseLength s.params s.enc = s.params.T2 := by rw [phaseLength, hst]
  unfold stepHighVar
  rw [← hlen]
  split
  next hph => exact .samePhase (by rw [hst]; rfl) hph
  next hph => exact .varToLow hst hph

theorem stepLow_move (gap : Bool) {s : State} (hst : s.enc.st = .low) : EncoderMove gap s (stepLow s) := by
  have hlen : phaseLength s.params s.enc = lowLen s.params s.enc.cb := by rw [phaseLength, hst]
  unfold stepLow
  rw [← hlen]
  split
  next hph => exact .samePhase (by rw [hst]; rfl) hph
  next hph =>
    dsimp only
    split
    next hbit => exact .nextBit hst hph hbit
    next hbit =>
      have hbit7 : s.enc.bitn.toNat = 7 := by
        have hlt : s.enc.bitn.toNat < 2 ^ 3 := s.enc.bitn.isLt
        have hge : ¬ s.enc.bitn.toNat < 7 := hbit
        omega
      split
      next hslot => exact .nextByte hst hph hbit7 hslot
      next hslot =>
        have hslot2 : s.enc.slot.val = 2 := by
          have hge : ¬ s.enc.slot.val < 2 := hslot
          omega
        unfold endOfPixel
        dsimp only
        split
        next hrem => exact .lastPixel hst hph hbit7 hslot2 hrem
        next hrem => exact .nextPixel hst hph hbit7 hslot2 hrem

/-- Every step of the encoder is one of the transitions. -/
theorem encoderStep_move (gap : Bool) (s : State) : EncoderMove gap s (encoderStep gap s) := by
  unfold encoderStep
  split
  next hst => exact .rest (by rw [State.busy, hst]; rfl)
  next hst => exact stepWait_move gap hst
  next hst => exact stepHighBase_move gap hst
  next hst => exact stepHighVar_move gap hst
  next hst => exact stepLow_move gap hst
  next hst => exact .rest (by rw [State.busy, hst]; rfl)

/-! ### The parts of the invariants of R55 -/

/-- R55 (b): no accumulator is above 254. -/
def AccusBounded (d : PerChannel) : Prop := ∀ c : Channel, (d.get c).toNat ≤ 254

/-- R55 (d), (f), (g), (h): the line, the remaining count and the phase counter agree with the encoder's state. -/
structure Coherent (st : EncState) (ph : BitVec 17) (line : Bool) (remain : Word) : Prop where
  line_eq : line = st.high
  remain_pos : st.sending = true → 1 ≤ remain.toNat
  done_remain : st = .done → remain = 0
  phase_zero : st.sending = false → ph = 0

/-- R55 by its parts; (a) and (c) hold of every value of the fields' types. -/
theorem inv_iff (s : State) :
    Inv s ↔ AccusBounded s.trav.d ∧ s.gov.elapsed.toNat ≤ s.params.WAIT_TIME ∧ Memory.wf s.mem = true ∧
      Coherent s.enc.st s.enc.ph s.line s.trav.remain := by
  constructor
  · rintro ⟨-, ⟨hr, hg, hb⟩, -, hline, hgov, hpos, hdone, hph, hmem⟩
    refine ⟨fun c => ?_, hgov, hmem, hline, hpos, hdone, hph⟩
    fin_cases c
    · exact hr
    · exact hg
    · exact hb
  · rintro ⟨hd, hgov, hmem, hline, hpos, hdone, hph⟩
    have hslot : s.enc.slot.val < 3 := s.enc.slot.isLt
    have hbitn : s.enc.bitn.toNat < 2 ^ 3 := s.enc.bitn.isLt
    have horder : ∀ o : WireOrder, o.code.toNat ≤ 5 := by intro o; cases o <;> decide
    exact ⟨⟨by omega, by omega⟩, ⟨hd 0, hd 1, hd 2⟩, horder _, hline, hgov, hpos, hdone, hph, hmem⟩

/-! ### The accumulators (R143, R149, R161) -/

/-- `Adjust` answers an accumulator of at most 254 from one of at most 254: the lost fraction is below 255 (R149). -/
theorem adjustByte_dn_le (v sc : Byte) {dc : Byte} (en : Bool) (hdc : dc.toNat ≤ 254) :
    (adjustByte v sc dc en).dn.toNat ≤ 254 := by
  have hrem : adjustRem v sc < 255 := Nat.mod_lt _ (by decide)
  unfold adjustByte
  split
  · exact hdc
  · split
    · exact hdc
    · split <;> simp only [BitVec.toNat_ofNat] <;> omega

theorem AccusBounded.set {d : PerChannel} (hd : AccusBounded d) (c : Channel) {v : Byte} (hv : v.toNat ≤ 254) :
    AccusBounded (d.set c v) := by
  intro c'
  by_cases h : c' = c
  · rw [h, get_set_same]; exact hv
  · rw [get_set_other d v h]; exact hd c'

theorem clampBias_le (e : Byte) : (clampBias e).toNat ≤ 254 := by
  unfold clampBias
  split
  · decide
  · next hne => bv_omega

theorem loadByte_accusBounded (k : Slot) {s : State} (hd : AccusBounded s.trav.d) :
    AccusBounded (loadByte k s).trav.d :=
  hd.set _ (adjustByte_dn_le _ _ _ (hd _))

theorem construct_accusBounded (s : State) : AccusBounded (construct s).trav.d := by
  intro c
  fin_cases c <;> exact clampBias_le _

/-- Only the loads of a byte write an accumulator (R165). -/
theorem EncoderMove.accusBounded {gap : Bool} {s t : State} (h : EncoderMove gap s t)
    (hd : AccusBounded s.trav.d) : AccusBounded t.trav.d := by
  cases h with
  | rest | awaitGap | finishEmpty | samePhase | toHighVar | baseToLow | varToLow | nextBit | lastPixel => exact hd
  | firstByte | nextByte | nextPixel => exact loadByte_accusBounded _ hd

/-! ### The governor (R210, R213) -/

theorem tickGovernor_elapsed_le (p : Params) {g : Governor} (hg : g.elapsed.toNat ≤ p.WAIT_TIME) :
    (tickGovernor p g).elapsed.toNat ≤ p.WAIT_TIME := by
  unfold tickGovernor
  split
  · have hmax : p.WAIT_TIME < 2 ^ 32 := p.waitTime.isLt
    dsimp only
    bv_omega
  · exact hg

/-- A transition leaves the governor alone or marks it. -/
theorem EncoderMove.elapsed_le {gap : Bool} {s t : State} {n : Nat} (h : EncoderMove gap s t)
    (hg : s.gov.elapsed.toNat ≤ n) : t.gov.elapsed.toNat ≤ n := by
  cases h with
  | finishEmpty | lastPixel => exact Nat.zero_le n
  | rest | awaitGap | firstByte | samePhase | toHighVar | baseToLow | varToLow | nextBit | nextByte | nextPixel =>
    exact hg

/-! ### The encoder's state with the line, the count and the phase (R226) -/

/-- In a sending state two things are to be shown: the line is that of the state, and a pixel remains. -/
theorem Coherent.of_sending {st : EncState} {ph : BitVec 17} {line : Bool} {remain : Word}
    (hst : st.sending = true) (hline : line = st.high) (hrem : 1 ≤ remain.toNat) : Coherent st ph line remain where
  line_eq := hline
  remain_pos _ := hrem
  done_remain hdone := by rw [hdone] at hst; cases hst
  phase_zero hnot := by rw [hst] at hnot; cases hnot

/-- `Finish` is reached with no pixel remaining, and leaves the line low and the phase 0 (R190). -/
theorem Coherent.done {remain : Word} (hrem : remain = 0) : Coherent .done 0 false remain :=
  ⟨rfl, nofun, fun _ => hrem, fun _ => rfl⟩

theorem one_le_toNat {w : Word} (h : w ≠ 0) : 1 ≤ w.toNat := by bv_omega

theorem EncoderMove.coherent {gap : Bool} {s t : State} (h : EncoderMove gap s t)
    (hc : Coherent s.enc.st s.enc.ph s.line s.trav.remain) : Coherent t.enc.st t.enc.ph t.line t.trav.remain := by
  have sent {st : EncState} (hst : s.enc.st = st) (hs : st.sending = true) : 1 ≤ s.trav.remain.toNat :=
    hc.remain_pos (hst ▸ hs)
  cases h with
  | rest | awaitGap => exact hc
  | finishEmpty _ _ hrem => exact .done hrem
  | firstByte _ _ hrem => exact .of_sending rfl rfl (one_le_toNat hrem)
  | samePhase hst => exact .of_sending hst hc.line_eq (hc.remain_pos hst)
  | toHighVar hst => exact .of_sending rfl (hc.line_eq.trans (by rw [hst]; rfl)) (sent hst rfl)
  | baseToLow hst => exact .of_sending rfl rfl (sent hst rfl)
  | varToLow hst => exact .of_sending rfl rfl (sent hst rfl)
  | nextBit hst => exact .of_sending rfl rfl (sent hst rfl)
  | nextByte hst => exact .of_sending rfl rfl (sent hst rfl)
  | nextPixel _ _ _ _ hrem => exact .of_sending rfl rfl (one_le_toNat hrem)
  | lastPixel _ _ _ _ hrem => exact .done hrem

/-! ### The invariants of R55 through a cycle -/

theorem cycle_inv {s : State} (hs : Inv s) : Inv (cycle s) := by
  obtain ⟨hd, hgov, hmem, hc⟩ := (inv_iff s).mp hs
  obtain ⟨hparams, hmem', -⟩ := cycle_env s
  have hmove : EncoderMove s.gapOk (tick s) (blockStep s) := encoderStep_move _ _
  refine (inv_iff _).mpr ⟨hmove.accusBounded hd, ?_, hmem' ▸ hmem, hmove.coherent hc⟩
  rw [hparams]
  exact hmove.elapsed_le (tickGovernor_elapsed_le s.params hgov)

/-- The configuration registers play no part in R55: their types hold all of (c). -/
theorem setRegs_inv {s : State} (hs : Inv s) (r : Regs) : Inv (s.setRegs r) :=
  (inv_iff _).mpr ((inv_iff s).mp hs)

theorem Coherent.line_low {s : State} (hc : Coherent s.enc.st s.enc.ph s.line s.trav.remain)
    (hrest : s.busy = false) : s.line = false := by
  have hlow : ∀ st : EncState, st.busy = false → st.high = false := by intro st; cases st <;> decide
  rw [hc.line_eq]
  exact hlow _ hrest

/-- A START in a resting block, whose line is low, meets R55 again: a frame that is done at once has no pixel
(R102, R161). -/
theorem startFrame_inv {s : State} (hs : Inv s) (hrest : s.busy = false) : Inv (startFrame s) := by
  obtain ⟨-, hgov, hmem, hc⟩ := (inv_iff s).mp hs
  refine (inv_iff _).mpr ⟨construct_accusBounded s, hgov, hmem, ?_⟩
  change Coherent (if s.regs.count = 0 ∧ s.regs.zlp = false then .done else .wait) 0 s.line s.regs.count
  rw [hc.line_low hrest]
  split
  next hempty => exact .done hempty.1
  next => exact ⟨rfl, nofun, nofun, fun _ => rfl⟩

/-- A resting block rests until an operation is accepted (R182). -/
theorem cycle_busy_of_resting {s : State} (hrest : s.busy = false) : (cycle s).busy = false := by
  change (blockStep s).enc.st.busy = false
  rw [blockStep_resting hrest]
  exact hrest

/-- The reset values meet R55, with any canonical memory (R251). -/
theorem resetWith_inv (p : Params) {m : List Host.Cell} (h : List HostCycle) (hm : Memory.wf m = true) :
    Inv (State.resetWith p m h) :=
  have hd : AccusBounded Traversal.reset.d := by unfold AccusBounded; decide
  (inv_iff _).mpr ⟨hd, Nat.zero_le _, hm, rfl, nofun, nofun, fun _ => rfl⟩

theorem AfterCycle.inv {s t : State} (h : AfterCycle s t) (hs : Inv s) : Inv t := by
  induction h with
  | quiet => exact cycle_inv hs
  | write => exact setRegs_inv (cycle_inv hs) _
  | start hrest => exact startFrame_inv (cycle_inv hs) (cycle_busy_of_resting hrest)
  | reset =>
    obtain ⟨-, -, hmem, -⟩ := (inv_iff s).mp hs
    exact resetWith_inv s.params [] hmem
  | setRdata _ _ ih | setRet _ _ ih | setHost _ _ ih => exact ih

theorem fetched_inv {s : State} (hs : Inv s) : Inv (fetched s) := by
  obtain ⟨m, l, heq, hm⟩ := fetched_eq s
  obtain ⟨hd, hgov, hmem, hc⟩ := (inv_iff s).mp hs
  rw [heq]
  exact (inv_iff _).mpr ⟨hd, hgov, hm hmem, hc⟩

/-! ### The parts of the sequencing invariants -/

/-- The encoder within a frame: the phase counter is inside its phase, a variable high part belongs to a 1 bit, the
untested bits of the shift register are left-aligned, and outside a frame all is empty (R42, R45, R185, R190). -/
structure PhaseOk (p : Params) (e : Encoder) : Prop where
  inside : e.st.sending = true → e.ph.toNat < phaseLength p e
  one_bit : e.st = .highVar → e.cb = true
  untested : e.st = .highBase → e.sr.toNat % 2 ^ e.bitn.toNat = 0
  tested : e.st = .highVar ∨ e.st = .low → e.sr.toNat % 2 ^ (e.bitn.toNat + 1) = 0
  empty : e.st.sending = false → e.bitn = 0 ∧ e.slot = 0 ∧ e.sr = 0

/-- The traversal within a frame: cursor and remaining count are those of the pixel being sent (R166, R168, R183). -/
structure PositionOk (r : Regs) (st : EncState) (cursor remain : Word) : Prop where
  waiting : st = .wait → remain = r.count ∧ (r.count = 0 → r.zlp = true)
  current : st.busy = true →
    remain.toNat ≤ r.count.toNat ∧ cursor = frameCursor r (r.count.toNat - remain.toNat)

/-- The low part of a bit period as the encoder counts it is that of the wire symbol (R89, R186). -/
theorem lowLen_eq_lowCycles (p : Params) (b : Bool) : lowLen p b = lowCycles p b := rfl

theorem inSequence_iff (s : State) :
    InSequence s ↔ PhaseOk s.params s.enc ∧ PositionOk s.regs s.enc.st s.trav.cursor s.trav.remain := by
  constructor
  · rintro ⟨hbase, hvar, hlow, htested, hempty, hwait, hcur⟩
    refine ⟨⟨fun hs => ?_, fun h => (hvar h).2, fun h => (hbase h).2, htested, hempty⟩, hwait, hcur⟩
    unfold phaseLength
    cases hst : s.enc.st with
    | idle | wait | done => rw [hst] at hs; cases hs
    | highBase => exact (hbase hst).1
    | highVar => exact (hvar hst).1
    | low => exact hlow hst
  · rintro ⟨⟨hinside, hone, huntested, htested, hempty⟩, hwait, hcur⟩
    have inside {st : EncState} (hst : s.enc.st = st) (hs : st.sending = true) :
        s.enc.ph.toNat < phaseLength s.params s.enc := hinside (hst ▸ hs)
    refine ⟨fun h => ⟨?_, huntested h⟩, fun h => ⟨?_, hone h⟩, fun h => ?_, htested, hempty, hwait, hcur⟩
    · simpa only [phaseLength, h] using inside h rfl
    · simpa only [phaseLength, h] using inside h rfl
    · simpa only [phaseLength, h, lowLen_eq_lowCycles] using inside h rfl

/-! ### The phase counter and the shift register (R42, R45) -/

/-- Every phase length fits the 17 bits of the counter (R42). -/
theorem phaseLength_lt (p : Params) (e : Encoder) : phaseLength p e < 2 ^ 17 := by
  have h1 : p.t1Pred.val < 65535 := p.t1Pred.isLt
  have h2 : p.t2.toNat < 2 ^ 16 := p.t2.isLt
  have h3 : p.t3Pred.val < 65535 := p.t3Pred.isLt
  unfold phaseLength lowLen Params.T1 Params.T2 Params.T3
  cases e.st with
  | idle | wait | done | highBase | highVar => dsimp only; omega
  | low => dsimp only; split <;> omega

theorem lowLen_pos (p : Params) (cb : Bool) : 0 < lowLen p cb := by
  unfold lowLen Params.T3
  split <;> omega

/-- The counter goes on within the phase (R42). -/
theorem PhaseOk.nextPhase {s : State} (hp : PhaseOk s.params s.enc)
    (hlt : s.enc.ph.toNat < phaseLength s.params s.enc - 1) : PhaseOk s.params s.nextPhase.enc := by
  refine ⟨fun _ => ?_, hp.one_bit, hp.untested, hp.tested, hp.empty⟩
  have hmax := phaseLength_lt s.params s.enc
  change (s.enc.ph + 1).toNat < phaseLength s.params s.enc
  bv_omega

/-- A bit period begins with the bits still to be sent at the left of the shift register (R187). -/
theorem PhaseOk.beginBit {p : Params} {e : Encoder} (hst : e.st = .highBase) (hph : e.ph = 0)
    (hsr : e.sr.toNat % 2 ^ e.bitn.toNat = 0) : PhaseOk p e where
  inside _ := by simp only [hph, phaseLength, hst]; exact Nat.succ_pos _
  one_bit h := by rw [hst] at h; cases h
  untested _ := hsr
  tested h := by rw [hst] at h; rcases h with h | h <;> cases h
  empty h := by rw [hst] at h; cases h

/-- The first bit of a byte: whatever was loaded is untested (R165, R188). -/
theorem PhaseOk.beginByte {p : Params} {e : Encoder} (hst : e.st = .highBase) (hph : e.ph = 0) (hbitn : e.bitn = 0) :
    PhaseOk p e :=
  .beginBit hst hph (by rw [hbitn]; exact Nat.mod_one _)

theorem PhaseOk.beginLow {p : Params} {e : Encoder} (hst : e.st = .low) (hph : e.ph = 0)
    (hsr : e.sr.toNat % 2 ^ (e.bitn.toNat + 1) = 0) : PhaseOk p e where
  inside _ := by simp only [hph, phaseLength, hst]; exact lowLen_pos p e.cb
  one_bit h := by rw [hst] at h; cases h
  untested h := by rw [hst] at h; cases h
  tested _ := hsr
  empty h := by rw [hst] at h; cases h

theorem PhaseOk.beginHighVar {p : Params} {e : Encoder} (hst : e.st = .highVar) (hph : e.ph = 0) (hcb : e.cb = true)
    (hT2 : 1 ≤ p.T2) (hsr : e.sr.toNat % 2 ^ (e.bitn.toNat + 1) = 0) : PhaseOk p e where
  inside _ := by simp only [hph, phaseLength, hst]; exact hT2
  one_bit _ := hcb
  untested h := by rw [hst] at h; cases h
  tested _ := hsr
  empty h := by rw [hst] at h; cases h

/-- Outside a frame the encoder is empty (R190). -/
theorem PhaseOk.of_empty {p : Params} {e : Encoder} (hst : e.st.sending = false)
    (hempty : e.bitn = 0 ∧ e.slot = 0 ∧ e.sr = 0) : PhaseOk p e where
  inside h := by rw [hst] at h; cases h
  one_bit h := by rw [h] at hst; cases hst
  untested h := by rw [h] at hst; cases hst
  tested h := by rcases h with h | h <;> rw [h] at hst <;> cases hst
  empty _ := hempty

/-- A shift by one bit moves the empty low bits of the register up by one (R184). -/
theorem shiftLeft_one_mod (sr : Byte) (n : BitVec 3) (h : sr.toNat % 2 ^ n.toNat = 0) :
    (sr <<< 1).toNat % 2 ^ (n.toNat + 1) = 0 := by
  have hn : n.toNat + 1 ≤ 8 := n.isLt
  rw [BitVec.toNat_shiftLeft, Nat.mod_mod_of_dvd _ (Nat.pow_dvd_pow 2 hn), Nat.shiftLeft_eq, pow_one, pow_succ,
    Nat.mul_mod_mul_right, h, Nat.zero_mul]

/-- After the last bit of a byte nothing is left in the shift register (R190). -/
theorem sr_eq_zero_of_last_bit {sr : Byte} {n : BitVec 3} (hn : n.toNat = 7)
    (h : sr.toNat % 2 ^ (n.toNat + 1) = 0) : sr = 0 := by
  rw [hn, Nat.mod_eq_of_lt sr.isLt] at h
  exact BitVec.eq_of_toNat_eq h

theorem EncoderMove.phaseOk {gap : Bool} {s t : State} (h : EncoderMove gap s t) (hp : PhaseOk s.params s.enc) :
    PhaseOk s.params t.enc := by
  cases h with
  | rest | awaitGap => exact hp
  | finishEmpty hst => exact .of_empty rfl (hp.empty (by rw [hst]; rfl))
  | firstByte hst => exact .beginByte rfl rfl (hp.empty (by rw [hst]; rfl)).1
  | samePhase _ hph => exact hp.nextPhase hph
  | toHighVar hst _ hbit hT2 => exact .beginHighVar rfl rfl hbit hT2 (shiftLeft_one_mod _ _ (hp.untested hst))
  | baseToLow hst => exact .beginLow rfl rfl (shiftLeft_one_mod _ _ (hp.untested hst))
  | varToLow hst => exact .beginLow rfl rfl (hp.tested (.inl hst))
  | nextBit hst _ hbit =>
    refine .beginBit rfl rfl ?_
    have hnext : (s.enc.bitn + 1).toNat = s.enc.bitn.toNat + 1 := by bv_omega
    change s.enc.sr.toNat % 2 ^ (s.enc.bitn + 1).toNat = 0
    rw [hnext]
    exact hp.tested (.inr hst)
  | nextByte | nextPixel => exact .beginByte rfl rfl rfl
  | lastPixel hst _ hbit => exact .of_empty rfl ⟨rfl, rfl, sr_eq_zero_of_last_bit hbit (hp.tested (.inr hst))⟩

/-! ### The cursor (R166, R172) -/

theorem frameCursor_zero (r : Regs) : frameCursor r 0 = cursor0 r := by
  simp [frameCursor, BitVec.ofInt_natCast]

/-- The cursors of a frame follow each other by `AdvancePixel` (R166, R172). -/
theorem frameCursor_succ (r : Regs) (i : Nat) : frameCursor r (i + 1) = nextCursor (frameCursor r i) r.advance := by
  have hsum : ((cursor0 r).toNat : Int) + 3 * r.advance.toInt * ((i + 1 : Nat) : Int) =
      ((cursor0 r).toNat + 3 * r.advance.toInt * (i : Int)) + 3 * r.advance.toInt := by
    push_cast
    ring
  unfold nextCursor
  rw [BitVec.ofInt_add, BitVec.ofInt_natCast, BitVec.ofNat_toNat, BitVec.setWidth_eq]
  unfold frameCursor
  rw [hsum, BitVec.ofInt_add]

/-- A move within a frame, or out of it, at the same pixel. -/
theorem PositionOk.samePixel {r : Regs} {st st' : EncState} {cursor remain : Word}
    (hp : PositionOk r st cursor remain) (hbusy : st.busy = true) (hst' : st' ≠ .wait) :
    PositionOk r st' cursor remain :=
  ⟨fun h => absurd h hst', fun _ => hp.current hbusy⟩

/-- `AdvancePixel` with a pixel remaining goes to the next pixel of the frame (R166). -/
theorem PositionOk.advance {r : Regs} {st st' : EncState} {cursor remain : Word}
    (hp : PositionOk r st cursor remain) (hbusy : st.busy = true) (hrem : 1 ≤ remain.toNat) (hst' : st' ≠ .wait) :
    PositionOk r st' (nextCursor cursor r.advance) (remain - 1) := by
  obtain ⟨hle, hcursor⟩ := hp.current hbusy
  have hsub : (remain - 1).toNat = remain.toNat - 1 := by bv_omega
  have hindex : r.count.toNat - (remain.toNat - 1) = r.count.toNat - remain.toNat + 1 := by omega
  refine ⟨fun h => absurd h hst', fun _ => ⟨by omega, ?_⟩⟩
  rw [hsub, hindex, frameCursor_succ, ← hcursor]

/-- `Construct` sets the cursor and the count of the first pixel (R161, R162). -/
theorem PositionOk.construct {r : Regs} {st : EncState} (hst : st = .wait → r.count = 0 → r.zlp = true) :
    PositionOk r st (cursor0 r) r.count where
  waiting h := ⟨rfl, hst h⟩
  current _ := ⟨le_rfl, by rw [Nat.sub_self, frameCursor_zero]⟩

theorem PositionOk.of_resting {r : Regs} {st : EncState} {cursor remain : Word} (hst : st.busy = false) :
    PositionOk r st cursor remain where
  waiting h := by rw [h] at hst; cases hst
  current h := by rw [hst] at h; cases h

theorem EncoderMove.positionOk {gap : Bool} {s t : State} (h : EncoderMove gap s t)
    (hrem : s.enc.st.sending = true → 1 ≤ s.trav.remain.toNat)
    (hp : PositionOk s.regs s.enc.st s.trav.cursor s.trav.remain) :
    PositionOk s.regs t.enc.st t.trav.cursor t.trav.remain := by
  have busy {st : EncState} (hst : s.enc.st = st) (hb : st.busy = true) : s.enc.st.busy = true := hst ▸ hb
  cases h with
  | rest | awaitGap | samePhase => exact hp
  | finishEmpty | lastPixel => exact .of_resting rfl
  | firstByte hst => exact hp.samePixel (busy hst rfl) nofun
  | toHighVar hst | baseToLow hst | varToLow hst | nextBit hst | nextByte hst =>
    exact hp.samePixel (busy hst rfl) nofun
  | nextPixel hst => exact hp.advance (busy hst rfl) (hrem (by rw [hst]; rfl)) nofun

/-! ### The sequencing invariants through a cycle -/

theorem cycle_inSequence {s : State} (hs : Inv s) (hq : InSequence s) : InSequence (cycle s) := by
  obtain ⟨-, -, -, hc⟩ := (inv_iff s).mp hs
  obtain ⟨hphase, hpos⟩ := (inSequence_iff s).mp hq
  obtain ⟨hparams, -, -, hregs, -⟩ := cycle_env s
  have hmove : EncoderMove s.gapOk (tick s) (blockStep s) := encoderStep_move _ _
  refine (inSequence_iff _).mpr ⟨?_, ?_⟩
  · rw [hparams]
    exact hmove.phaseOk hphase
  · rw [hregs]
    exact hmove.positionOk hc.remain_pos hpos

/-- While the block rests the sequencing does not depend on the configuration (R101). -/
theorem setRegs_inSequence {s : State} (hq : InSequence s) (hrest : s.busy = false) (r : Regs) :
    InSequence (s.setRegs r) :=
  (inSequence_iff _).mpr ⟨((inSequence_iff s).mp hq).1, .of_resting hrest⟩

/-- An accepted START leaves an empty encoder before the first pixel (R102). -/
theorem startFrame_inSequence (s : State) : InSequence (startFrame s) := by
  refine (inSequence_iff _).mpr ⟨.of_empty ?_ ⟨rfl, rfl, rfl⟩, .construct ?_⟩
  · change (if s.regs.count = 0 ∧ s.regs.zlp = false then EncState.done else .wait).sending = false
    split <;> rfl
  · change (if s.regs.count = 0 ∧ s.regs.zlp = false then EncState.done else .wait) = .wait → _
    split
    next => exact nofun
    next hnot => exact fun _ hcount => Bool.eq_true_of_not_eq_false fun hzlp => hnot ⟨hcount, hzlp⟩

/-- The reset values are in sequence (R251). -/
theorem resetWith_inSequence (p : Params) (m : List Host.Cell) (h : List HostCycle) :
    InSequence (State.resetWith p m h) :=
  (inSequence_iff _).mpr ⟨.of_empty rfl ⟨rfl, rfl, rfl⟩, .of_resting rfl⟩

theorem AfterCycle.inSequence {s t : State} (h : AfterCycle s t) (hs : Inv s) (hq : InSequence s) :
    InSequence t := by
  induction h with
  | quiet => exact cycle_inSequence hs hq
  | write hrest => exact setRegs_inSequence (cycle_inSequence hs hq) (cycle_busy_of_resting hrest) _
  | start => exact startFrame_inSequence _
  | reset => exact resetWith_inSequence s.params s.mem []
  | setRdata _ _ ih | setRet _ _ ih | setHost _ _ ih => exact ih

theorem fetched_inSequence {s : State} (hq : InSequence s) : InSequence (fetched s) := by
  obtain ⟨m, l, heq, -⟩ := fetched_eq s
  rw [heq]
  exact hq

end Sys2Proof.Machine

/-! ### The obligations of 10_state.md -/

namespace Sys2Proof.Claims

open Sys2Proof.Machine

/-- Settles O49: the stores keep the memory canonical, and each thing a cycle can leave meets R55. -/
theorem stepKeepsTheInvariants : Obligations.StepKeepsTheInvariants :=
  fun _ _ hs hstep => (afterCycle_of_step hstep).inv (fetched_inv hs)

/-- Settles O50: each thing a cycle can leave is in sequence; that a pixel remains while one is sent (R55 (f)) makes
`AdvancePixel` go to the next pixel. -/
theorem stepKeepsTheSequence : Obligations.StepKeepsTheSequence :=
  fun _ _ hs hq hstep => (afterCycle_of_step hstep).inSequence (fetched_inv hs) (fetched_inSequence hq)

/-- Settles O48, by the reset values. -/
theorem resetMeetsTheInvariants : Obligations.ResetMeetsTheInvariants :=
  fun p m h hm => ⟨resetWith_inv p h hm, resetWith_inSequence p m h⟩

end Sys2Proof.Claims

namespace Sys2Proof.Machine

/-! ### Reading the pixel memory back (R60, R61, R71) -/

theorem Memory.read_cons_same (a : Word) (v : Byte) (m : List Host.Cell) : Memory.read ((a.toNat, v) :: m) a = v :=
  if_pos rfl

theorem Memory.read_cons_other {k : Nat} {a : Word} (h : k ≠ a.toNat) (v : Byte) (m : List Host.Cell) :
    Memory.read ((k, v) :: m) a = Memory.read m a :=
  if_neg h

/-- A canonical memory: its first cell is within bounds, and the other cells are at higher addresses. -/
theorem Memory.wfFrom_cons_iff {lo k : Nat} {v : Byte} {m : List Host.Cell} :
    Memory.wfFrom lo ((k, v) :: m) = true ↔
      lo ≤ k ∧ k < 2 ^ 32 ∧ v ≠ Memory.unlisted ∧ Memory.wfFrom (k + 1) m = true := by
  simp only [Memory.wfFrom, Bool.and_eq_true, decide_eq_true_eq, bne_iff_ne, and_assoc]

/-- Below the addresses of a canonical memory nothing is listed (log 2). -/
theorem Memory.read_below {lo : Nat} {m : List Host.Cell} {a : Word} (hm : Memory.wfFrom lo m = true)
    (ha : a.toNat < lo) : Memory.read m a = Memory.unlisted := by
  induction m generalizing lo with
  | nil => rfl
  | cons c rest ih =>
    obtain ⟨k, v⟩ := c
    obtain ⟨hlo, -, -, hrest⟩ := Memory.wfFrom_cons_iff.mp hm
    rw [Memory.read_cons_other (by omega), ih hrest (by omega)]

/-- A byte put before a memory of higher addresses reads back; the byte of an unlisted address, which gets no cell,
does because no later cell is at its address. -/
theorem Memory.read_putCell_same {a : Word} {m : List Host.Cell} (hm : Memory.wfFrom (a.toNat + 1) m = true)
    (b : Byte) : Memory.read (Memory.putCell a.toNat b m) a = b := by
  unfold Memory.putCell
  split
  next hb => rw [hb, Memory.read_below hm (Nat.lt_succ_self _)]
  next => exact Memory.read_cons_same a b m

theorem Memory.read_putCell_other {a a' : Word} (h : a' ≠ a) (b : Byte) (m : List Host.Cell) :
    Memory.read (Memory.putCell a.toNat b m) a' = Memory.read m a' := by
  unfold Memory.putCell
  split
  next => rfl
  next => exact Memory.read_cons_other (mt BitVec.eq_of_toNat_eq h.symm) b m

/-- The address is written before the first cell, over it, or in the rest of the list. -/
theorem Memory.read_write_same {lo : Nat} {m : List Host.Cell} (a : Word) (b : Byte)
    (hm : Memory.wfFrom lo m = true) : Memory.read (Memory.write m a b) a = b := by
  induction m generalizing lo with
  | nil => exact Memory.read_putCell_same rfl b
  | cons c rest ih =>
    obtain ⟨k, v⟩ := c
    obtain ⟨-, hk, hv, hrest⟩ := Memory.wfFrom_cons_iff.mp hm
    unfold Memory.write
    split
    next hlt => exact Memory.read_putCell_same (Memory.wfFrom_cons_iff.mpr ⟨hlt, hk, hv, hrest⟩) b
    next =>
      split
      next heq => exact Memory.read_putCell_same (heq ▸ hrest) b
      next hne => rw [Memory.read_cons_other (Ne.symm hne), ih hrest]

/-- The other addresses read as before, in a memory of any form. -/
theorem Memory.read_write_other {a a' : Word} (h : a' ≠ a) (b : Byte) (m : List Host.Cell) :
    Memory.read (Memory.write m a b) a' = Memory.read m a' := by
  induction m with
  | nil => exact Memory.read_putCell_other h b []
  | cons c rest ih =>
    obtain ⟨k, v⟩ := c
    unfold Memory.write
    split
    next => exact Memory.read_putCell_other h b _
    next =>
      split
      next heq =>
        subst heq
        rw [Memory.read_putCell_other h, Memory.read_cons_other (mt BitVec.eq_of_toNat_eq h.symm)]
      next =>
        by_cases hk : k = a'.toNat
        · subst hk
          rw [Memory.read_cons_same, Memory.read_cons_same]
        · rw [Memory.read_cons_other hk, Memory.read_cons_other hk, ih]

/-! ### What every operation keeps (R54, R66, R74, R101) -/

/-- What an operation from `s` may not write: the instance and the pixel memory in any state, the configuration
registers while the block is busy. -/
structure KeepsInputs (s t : State) : Prop where
  params : t.params = s.params
  mem : t.mem = s.mem
  regs_of_busy : s.busy = true → t.regs = s.regs

/-- The procedures of the block keep more than that. -/
theorem SameEnvironment.keepsInputs {s t : State} (h : SameEnvironment s t) : KeepsInputs s t := by
  obtain ⟨hparams, hmem, -, hregs, -⟩ := h
  exact ⟨hparams, hmem, fun _ => hregs⟩

theorem cycle_keepsInputs (s : State) : KeepsInputs s (cycle s) := by
  obtain ⟨hparams, hmem, -, hregs, -⟩ := cycle_env s
  exact ⟨hparams, hmem, fun _ => hregs⟩

/-! The answers and the host's coming cycles are outside what is kept. -/

theorem KeepsInputs.setRdata {s t : State} (h : KeepsInputs s t) (w : Option Word) : KeepsInputs s (t.setRdata w) :=
  ⟨h.params, h.mem, h.regs_of_busy⟩

theorem KeepsInputs.setRet {s t : State} (h : KeepsInputs s t) (r : ProcResult) : KeepsInputs s (t.setRet r) :=
  ⟨h.params, h.mem, h.regs_of_busy⟩

theorem KeepsInputs.pushHost {s t : State} (h : KeepsInputs s t) (l : List HostCycle) :
    KeepsInputs s (t.pushHost l) :=
  ⟨h.params, h.mem, h.regs_of_busy⟩

theorem setRet_keepsInputs (s : State) (r : ProcResult) : KeepsInputs s (s.setRet r) :=
  (SameEnvironment.refl s).keepsInputs.setRet r

theorem readCycle_keepsInputs (w : Word) (s : State) : KeepsInputs s (readCycle w s) :=
  (cycle_keepsInputs s).setRdata (some w)

/-- A write is dropped while the block is busy (R101), so its effect may change the configuration registers. -/
theorem writeCycle_keepsInputs {f : State → State} (s : State) (hparams : ∀ u, (f u).params = u.params)
    (hmem : ∀ u, (f u).mem = u.mem) : KeepsInputs s (writeCycle f s) := by
  have hcycle := cycle_keepsInputs s
  cases hb : s.busy with
  | true => rw [writeCycle_busy f hb]; exact hcycle
  | false =>
    rw [writeCycle_resting f hb]
    exact ⟨(hparams _).trans hcycle.params, (hmem _).trans hcycle.mem, fun h => by rw [hb] at h; cases h⟩

theorem writeRegsCycle_keepsInputs (f : Regs → Regs) (s : State) : KeepsInputs s (writeCycle (writeRegs f) s) :=
  writeCycle_keepsInputs s (fun _ => rfl) (fun _ => rfl)

theorem startCycle_keepsInputs (s : State) : KeepsInputs s (writeCycle startFrame s) :=
  writeCycle_keepsInputs s (fun _ => rfl) (fun _ => rfl)

theorem sendSymbol_keepsInputs (b : Bool) (s : State) : KeepsInputs s (sendSymbol b s) := ⟨rfl, rfl, fun _ => rfl⟩

/-- Every operation is a cycle, a read, a write of the configuration, a START, a symbol or a procedure of the block,
with answers and lines of the host's program added. -/
theorem exec_keepsInputs (i : Instr) (s : State) : ∃ t, exec i s = .next t ∧ KeepsInputs s t := by
  cases i with
  | nop | wrCmdNone | wrStatus | wrDstate | wrRemain | wrCursor | wrRsvd34 | wrRsvd38 | wrMisalOdd | wrMisal2 =>
    exact ⟨_, rfl, cycle_keepsInputs s⟩
  | rdCmd | rdCfg | rdStatus | rdBase | rdCount | rdAdvance | rdLaneOff | rdBright | rdCorr | rdBias | rdDstate
  | rdRemain | rdCursor | rdRsvd34 | rdRsvd38 | rdMisalOdd | rdMisal2 => exact ⟨_, rfl, readCycle_keepsInputs _ s⟩
  | wrCfg | wrBase | wrCount | wrAdvance | wrLaneOff | wrBright | wrCorr | wrBias =>
    exact ⟨_, rfl, writeRegsCycle_keepsInputs _ s⟩
  | wrCmdStart | pseudoStart => exact ⟨_, rfl, startCycle_keepsInputs s⟩
  | pseudoPoll =>
    refine ⟨_, rfl, ?_⟩
    split
    · exact (readCycle_keepsInputs _ s).pushHost _
    · exact readCycle_keepsInputs _ s
  | pseudoHas n => exact ⟨_, rfl, (readCycle_keepsInputs _ s).setRet _⟩
  | pseudoShow base n => exact ⟨_, rfl, (writeRegsCycle_keepsInputs _ s).pushHost _⟩
  | bit0 | bit1 => exact ⟨_, rfl, sendSymbol_keepsInputs _ s⟩
  | adjust | scale | has | wait => exact ⟨_, rfl, setRet_keepsInputs s _⟩
  | stepIdle | stepDone => exact ⟨_, rfl, (SameEnvironment.refl s).keepsInputs⟩
  | stepWait => exact ⟨_, rfl, (stepWait_env _ s).keepsInputs⟩
  | stepHighBase => exact ⟨_, rfl, (stepHighBase_env s).keepsInputs⟩
  | stepHighVar => exact ⟨_, rfl, (stepHighVar_env s).keepsInputs⟩
  | stepLow => exact ⟨_, rfl, (stepLow_env s).keepsInputs⟩
  | construct => exact ⟨_, rfl, (setTrav_env s _).keepsInputs⟩
  | loadByte k => exact ⟨_, rfl, (loadByte_env k s).keepsInputs⟩
  | advancePixel => exact ⟨_, rfl, (advancePixel_env s).keepsInputs⟩
  | endOfBit => exact ⟨_, rfl, (endOfBit_env s).keepsInputs⟩
  | endOfByte => exact ⟨_, rfl, (endOfByte_env s).keepsInputs⟩
  | endOfPixel => exact ⟨_, rfl, (endOfPixel_env s).keepsInputs⟩
  | finish => exact ⟨_, rfl, (finish_env s).keepsInputs⟩
  | tick => exact ⟨_, rfl, (tick_env s).keepsInputs⟩
  | mark => exact ⟨_, rfl, (mark_env s).keepsInputs⟩
  | setHigh | setLow | toggle => exact ⟨_, rfl, (setLine_env s _).keepsInputs⟩

theorem keepsInputs_of_exec {i : Instr} {s t : State} (h : exec i s = .next t) : KeepsInputs s t := by
  obtain ⟨t', hexec, hkeeps⟩ := exec_keepsInputs i s
  cases h.symm.trans hexec
  exact hkeeps

/-- The block is busy in the four states in which it does not rest (R53, R101). -/
theorem busy_of_not_resting {s : State} (h : ¬ Claims.Resting s) : s.busy = true := by
  unfold State.busy
  cases hst : s.enc.st with
  | idle => exact absurd (.inl hst) h
  | done => exact absurd (.inr hst) h
  | wait | highBase | highVar | low => rfl

end Sys2Proof.Machine

/-! ### The obligations of 20_memory.md -/

namespace Sys2Proof.Claims

open Sys2Proof.Machine

/-- Settles O42: no operation writes the list of cells, so that every byte reads as before. -/
theorem noOperationWritesThePixelMemory : Obligations.NoOperationWritesThePixelMemory := by
  intro i s t h
  have hkeeps := keepsInputs_of_exec h
  exact ⟨hkeeps.params, hkeeps.mem, fun a => by rw [hkeeps.mem]⟩

/-- Settles O43: a busy block drops the writes, and nothing else is a write of the configuration. -/
theorem configurationIsFixedWhileBusy : Obligations.ConfigurationIsFixedWhileBusy :=
  fun _ _ _ hbusy h => (keepsInputs_of_exec h).regs_of_busy (busy_of_not_resting hbusy)

/-- Settles O47: only the reading of the stored byte itself needs the canonical form. -/
theorem storedByteReadsBack : Obligations.StoredByteReadsBack :=
  fun m a b hm => ⟨Memory.read_write_same a b hm, fun _ h => Memory.read_write_other h b m⟩

end Sys2Proof.Claims

namespace Sys2Proof

/-! ### The fields of a transaction word (R80) -/

@[simp] theorem htValid_htWord (we : Bool) (off : Offset) (d : Word) : htValid (htWord we off d) = true := by
  simp only [htValid, htWord, BitVec.getLsbD_append]
  rfl

@[simp] theorem htWe_htWord (we : Bool) (off : Offset) (d : Word) : htWe (htWord we off d) = we := by
  simp only [htWe, htWord, BitVec.getLsbD_append]
  cases we <;> rfl

@[simp] theorem htOff_htWord (we : Bool) (off : Offset) (d : Word) : htOff (htWord we off d) = off :=
  (BitVec.extractLsb'_append_eq_of_le le_rfl).trans BitVec.extractLsb'_append_eq_right

@[simp] theorem htData_htWord (we : Bool) (off : Offset) (d : Word) : htData (htWord we off d) = d :=
  BitVec.extractLsb'_append_eq_right

theorem ofBool_getLsbD_eq_extractLsb' {n : Nat} (x : BitVec n) (i : Nat) :
    BitVec.ofBool (x.getLsbD i) = x.extractLsb' i 1 := by
  ext j hj
  obtain rfl : j = 0 := by omega
  simp

/-- A word with `valid = 1` is made of its other three fields. -/
theorem htWord_fields {w : Transaction} (h : htValid w = true) : htWord (htWe w) (htOff w) (htData w) = w := by
  have hvalid : BitVec.ofNat 1 1 = w.extractLsb' 39 1 := by
    rw [← ofBool_getLsbD_eq_extractLsb', ← htValid, h]
    rfl
  rw [htWord, hvalid, htWe, ofBool_getLsbD_eq_extractLsb', htOff, htData,
    BitVec.extractLsb'_append_extractLsb'_eq_extractLsb' (start₁ := 38) (len₁ := 1) rfl,
    BitVec.extractLsb'_append_extractLsb'_eq_extractLsb' (start₁ := 32) (len₁ := 6) rfl,
    BitVec.extractLsb'_append_extractLsb'_eq_extractLsb' (start₁ := 0) (len₁ := 32) rfl]
  exact BitVec.extractLsb'_eq_self

/-- A mask that holds the whole upper byte masks the data only. -/
theorem htWord_and (we : Bool) (off : Offset) (d m : Word) :
    htWord we off d &&& (0xFF#8 ++ m) = htWord we off (d &&& m) := by
  have hhead : ∀ x : BitVec 8, x &&& 0xFF#8 = x := fun _ => BitVec.and_allOnes
  rw [htWord, BitVec.and_append, hhead, htWord]

theorem htWord_and_head (we : Bool) (off : Offset) (d : Word) :
    htWord we off d &&& 0xFF00000000#40 = htWord we off 0 :=
  (htWord_and we off d 0#32).trans (congrArg _ BitVec.and_zero)

/-! ### Decoding a word (R80, R93) -/

theorem decodeTransaction_invalid {w : Transaction} (h : htValid w = false) : decodeTransaction w = .nop := by
  simp [decodeTransaction, h]

@[simp] theorem decodeTransaction_readWord (off : Offset) (d : Word) :
    decodeTransaction (htWord false off d) = decodeRead off := by
  simp [decodeTransaction]

@[simp] theorem decodeTransaction_writeWord (off : Offset) (d : Word) :
    decodeTransaction (htWord true off d) = decodeWrite off d := by
  simp [decodeTransaction]

/-- The decoder of numbers, on a number of 40 bits, is that of words. -/
theorem decode_ht (w : Transaction) : decode .ht w.toNat = .ok (decodeTransaction w) := by
  rw [decode, if_pos w.isLt, BitVec.ofNat_toNat, BitVec.setWidth_eq]

theorem decode_readWord (off : Offset) : decode .ht (htWord false off 0).toNat = .ok (decodeRead off) := by
  rw [decode_ht, decodeTransaction_readWord]

theorem decode_writeWord (off : Offset) (d : Word) :
    decode .ht (htWord true off d).toNat = .ok (decodeWrite off d) := by
  rw [decode_ht, decodeTransaction_writeWord]

/-! ### The rows that keep the offset as an operand (R93) -/

theorem Offset.reserved38_iff (off : Offset) : Offset.reserved38 off = true ↔ off = 0x38 ∨ off = 0x3C := by
  simp [Offset.reserved38]

theorem Offset.evenMisaligned_iff (off : Offset) :
    Offset.evenMisaligned off = true ↔ ¬ off.getLsbD 0 = true ∧ off.getLsbD 1 = true := by
  rw [Offset.evenMisaligned, Bool.and_eq_true, Bool.not_eq_true', Bool.not_eq_true]

theorem decodeRead_reserved38 {off : Offset} (h : Offset.reserved38 off = true) :
    decodeRead off = .rdRsvd38 off := by
  rcases (Offset.reserved38_iff off).mp h with rfl | rfl <;> rfl

theorem decodeWrite_reserved38 {off : Offset} (d : Word) (h : Offset.reserved38 off = true) :
    decodeWrite off d = .wrRsvd38 off d := by
  rcases (Offset.reserved38_iff off).mp h with rfl | rfl <;> rfl

theorem decodeRead_odd {off : Offset} (h : Offset.odd off = true) : decodeRead off = .rdMisalOdd off := if_pos h

theorem decodeWrite_odd {off : Offset} (d : Word) (h : Offset.odd off = true) :
    decodeWrite off d = .wrMisalOdd off d := if_pos h

theorem decodeRead_evenMisaligned {off : Offset} (h : Offset.evenMisaligned off = true) :
    decodeRead off = .rdMisal2 off := by
  obtain ⟨heven, hmis⟩ := (Offset.evenMisaligned_iff off).mp h
  rw [decodeRead, if_neg heven, if_pos hmis]

theorem decodeWrite_evenMisaligned {off : Offset} (d : Word) (h : Offset.evenMisaligned off = true) :
    decodeWrite off d = .wrMisal2 off d := by
  obtain ⟨heven, hmis⟩ := (Offset.evenMisaligned_iff off).mp h
  rw [decodeWrite, if_neg heven, if_pos hmis]

/-! ### Encoding what was decoded (R80, R93) -/

/-- A well-formed operation whose own word is `w`. -/
structure Encodes (i : Instr) (w : Transaction) : Prop where
  wellFormed : i.wellFormed = true
  encode_eq : encode i = some (.ht, w.toNat)

/-- A choice of the decoder, each side under its condition. -/
theorem Encodes.ite {c : Prop} [Decidable c] {i j : Instr} {w : Transaction} (hi : c → Encodes i w)
    (hj : ¬ c → Encodes j w) : Encodes (if c then i else j) w := by
  split
  next h => exact hi h
  next h => exact hj h

theorem decodeRead_wellFormed : ∀ off : Offset, (decodeRead off).wellFormed = true := by
  decide

theorem encode_decodeRead : ∀ off : Offset, encode (decodeRead off) = encodeRead off := by
  decide

theorem decodeRead_encodes (off : Offset) : Encodes (decodeRead off) (htWord false off 0) :=
  ⟨decodeRead_wellFormed off, encode_decodeRead off⟩

/-- In the order of `decodeWrite`: the misaligned offsets, the two rows of `CMD`, the rows that fix the offset, and the
reserved offsets left over, which are those left over by `decodeRead`. -/
theorem decodeWrite_encodes (off : Offset) (d : Word) : Encodes (decodeWrite off d) (htWord true off d) := by
  refine .ite (fun hodd => ⟨hodd, rfl⟩) fun hodd =>
    .ite (fun hmis => ⟨(Offset.evenMisaligned_iff off).mpr ⟨hodd, hmis⟩, rfl⟩) fun hmis => .ite ?cmd fun hcmd => ?_
  case cmd =>
    rintro rfl
    exact .ite (fun hbit => ⟨hbit, rfl⟩) fun hbit => ⟨(Bool.not_eq_true' _).mpr (Bool.eq_false_iff.mpr hbit), rfl⟩
  repeat' refine Encodes.ite (by rintro rfl; exact ⟨rfl, rfl⟩) fun _ => ?_
  have hread := decodeRead_wellFormed off
  have hlast : (Instr.rdRsvd38 off).wellFormed = true := by
    simpa only [decodeRead, *, if_false, Bool.false_eq_true] using hread
  exact ⟨hlast, rfl⟩

/-- A word less the bits that R80 says are ignored: all but `valid` of a `NOP`, the data of a read. -/
def usedBits (w : Transaction) : Transaction :=
  if htValid w = false then 0 else if htWe w then w else w &&& 0xFF00000000#40

theorem decodeTransaction_encodes (w : Transaction) : Encodes (decodeTransaction w) (usedBits w) := by
  unfold usedBits
  cases hvalid : htValid w with
  | false =>
    rw [decodeTransaction_invalid hvalid]
    exact ⟨rfl, rfl⟩
  | true =>
    rw [if_neg Bool.noConfusion, ← htWord_fields hvalid]
    cases htWe w with
    | false =>
      rw [htWord_and_head]
      simpa using decodeRead_encodes (htOff w)
    | true => simpa using decodeWrite_encodes (htOff w) (htData w)

/-! ### The host rows (R93)

Two rows that ask for different values of a common bit are disjoint. Which rows a word with `valid = 1` selects depends
on `we`, the offset and bit 0 of the data only, and so does the row of the operation it decodes to. -/

theorem filter_eq_singleton_of_pairwise {α : Type} {p : α → Bool} {l : List α} {a : α} (ha : a ∈ l)
    (hpa : p a = true) (hl : l.Pairwise fun x y => ¬ (p x = true ∧ p y = true)) : l.filter p = [a] := by
  have hmem : a ∈ l.filter p := List.mem_filter.mpr ⟨ha, hpa⟩
  have hpair := hl.filter p
  have hall : ∀ x ∈ l.filter p, p x = true := fun x hx => (List.mem_filter.mp hx).2
  cases hf : l.filter p with
  | nil => rw [hf] at hmem; cases hmem
  | cons x xs =>
    rw [hf] at hmem hpair hall
    cases xs with
    | nil => rw [List.mem_singleton.mp hmem]
    | cons y ys =>
      have hxy := List.rel_of_pairwise_cons hpair (List.mem_cons_self ..)
      exact absurd ⟨hall x (by simp), hall y (by simp)⟩ hxy

theorem hostRows_conflict : hostRows.Pairwise fun r r' => r.bits &&& r'.mask ≠ r'.bits &&& r.mask := by
  decide

theorem hostRows_disjoint (w : Transaction) :
    hostRows.Pairwise fun r r' => ¬ (r.selects w = true ∧ r'.selects w = true) := by
  refine hostRows_conflict.imp fun {r r'} hne h => hne ?_
  obtain ⟨hr, hr'⟩ := h
  rw [← beq_iff_eq.mp hr, ← beq_iff_eq.mp hr', BitVec.and_assoc, BitVec.and_assoc, BitVec.and_comm r.mask]

/-- The data word that holds `b` in bit 0 and zeros elsewhere. -/
def bitWord (b : Bool) : Word := (BitVec.ofBool b).setWidth 32

@[simp] theorem getLsbD_bitWord (b : Bool) : (bitWord b).getLsbD 0 = b := by
  cases b <;> rfl

theorem hostRows_mask : ∀ row ∈ hostRows, row.mask &&& 0xFF00000001 = row.mask := by
  decide

theorem selects_bitWord {row : HostRow} (h : row ∈ hostRows) (we : Bool) (off : Offset) (d : Word) :
    row.selects (htWord we off (bitWord (d.getLsbD 0))) = row.selects (htWord we off d) := by
  have hand : htWord we off d &&& 0xFF00000001 = htWord we off (bitWord (d.getLsbD 0)) :=
    (htWord_and we off d 1#32).trans (congrArg _ BitVec.and_one_eq_setWidth_ofBool_getLsbD)
  rw [HostRow.selects, HostRow.selects, ← hand, BitVec.and_assoc, BitVec.and_comm _ row.mask, hostRows_mask row h]

theorem decodeWrite_mnemonic (off : Offset) (d : Word) :
    (decodeWrite off (bitWord (d.getLsbD 0))).mnemonic = (decodeWrite off d).mnemonic := by
  simp only [decodeWrite, getLsbD_bitWord, apply_ite Instr.mnemonic]
  rfl

theorem mnemonic_bitWord (we : Bool) (off : Offset) (d : Word) :
    (decodeTransaction (htWord we off (bitWord (d.getLsbD 0)))).mnemonic =
      (decodeTransaction (htWord we off d)).mnemonic := by
  cases we with
  | false => rw [decodeTransaction_readWord, decodeTransaction_readWord]
  | true => rw [decodeTransaction_writeWord, decodeTransaction_writeWord, decodeWrite_mnemonic]

/-- The table of the words with `valid = 1`, by `we`, offset and bit 0 of the data. The misaligned offsets, which are
most of them, are at the end of the list of rows. -/
theorem exists_row_bitWord : ∀ we off b, ∃ row ∈ hostRows.reverse,
    row.selects (htWord we off (bitWord b)) = true ∧
      row.mnemonic = (decodeTransaction (htWord we off (bitWord b))).mnemonic := by
  decide

/-- Without `valid` a word selects the row `NOP`, whose mask is bit 39. -/
theorem and_validMask {w : Transaction} (h : htValid w = false) : w &&& 0x8000000000 = 0 := by
  have hand : w &&& BitVec.twoPow 40 39 = 0 := by
    rw [BitVec.and_twoPow, ← htValid, h]
    rfl
  exact hand

/-- The rows cover every word. -/
theorem exists_row (w : Transaction) :
    ∃ row ∈ hostRows, row.selects w = true ∧ row.mnemonic = (decodeTransaction w).mnemonic := by
  cases hvalid : htValid w with
  | false =>
    refine ⟨⟨"NOP", 0x0000000000, 0x8000000000⟩, List.mem_cons_self .., beq_iff_eq.mpr (and_validMask hvalid), ?_⟩
    rw [decodeTransaction_invalid hvalid]
    rfl
  | true =>
    rw [← htWord_fields hvalid]
    obtain ⟨row, hrow, hselects, hname⟩ := exists_row_bitWord (htWe w) (htOff w) ((htData w).getLsbD 0)
    rw [List.mem_reverse] at hrow
    rw [selects_bitWord hrow] at hselects
    exact ⟨row, hrow, hselects, hname.trans (mnemonic_bitWord _ _ _)⟩

end Sys2Proof

namespace Sys2Proof.Machine

open Sys2Proof.Claims

/-! ### What the registers read as after reset (R81, R84) -/

theorem cfgWord_reset : cfgWord Regs.reset = 0 := by decide

theorem brightWord_reset : Regs.reset.bright.setWidth 32 = 0x000000FF#32 := by decide

theorem packWord_corr_reset : packWord Regs.reset.corr = 0x00FFFFFF := by decide

theorem packWord_bias_reset : packWord Regs.reset.bias = 0 := by decide

theorem packWord_d_reset : packWord Traversal.reset.d = 0 := by decide

/-- After reset only `gap_ok` is set: nothing is marked (R211). -/
theorem statusWord_reset (p : Params) (m : List Host.Cell) (h : List HostCycle) :
    (State.resetWith p m h).statusWord = 0x00000008 := by
  change 0#21 ++ EncState.idle.code ++ 0#3 ++ bit false ++ bit true ++ bit false ++ bit false ++ bit false =
    0x00000008#32
  decide

theorem answers_of_readCycle {i : Instr} {s : State} {w v : Word} (h : exec i s = .next (readCycle w s))
    (hw : w = v) : Answers i s v :=
  hw ▸ ⟨cycle s, rfl, h⟩

/-! ### The channel orders (R87, R163) -/

/-- The six channel orders, by code. -/
def wireOrders : List WireOrder := [.rgb, .rbg, .grb, .gbr, .brg, .bgr]

theorem code_le (o : WireOrder) : o.code ≤ 5#3 := by
  cases o <;> decide

theorem exists_code : ∀ code : BitVec 3, code ≤ 5#3 → ∃ o ∈ wireOrders, o.code = code := by
  decide

theorem exists_code_iff (code : BitVec 3) : (∃ o : WireOrder, o.code = code) ↔ code ≤ 5#3 := by
  constructor
  · rintro ⟨o, rfl⟩
    exact code_le o
  · intro h
    obtain ⟨o, -, ho⟩ := exists_code code h
    exact ⟨o, ho⟩

theorem inv_perm (o : WireOrder) (k : Slot) : o.inv (o.perm k) = k := by
  cases o <;> revert k <;> decide

theorem perm_inv (o : WireOrder) (c : Channel) : o.perm (o.inv c) = c := by
  cases o <;> revert c <;> decide

/-- Three different channels, in any order, are the slots of one of the six orders. -/
theorem exists_perm : ∀ c0 c1 c2 : Channel, c0 ≠ c1 → c0 ≠ c2 → c1 ≠ c2 →
    ∃ o ∈ wireOrders, o.perm 0 = c0 ∧ o.perm 1 = c1 ∧ o.perm 2 = c2 := by
  decide

theorem exists_perm_of_injective {f : Slot → Channel} (hf : ∀ j k, f j = f k → j = k) :
    ∃ o : WireOrder, ∀ k, o.perm k = f k := by
  have hne : ∀ j k, j ≠ k → f j ≠ f k := fun j k hjk hfjk => hjk (hf j k hfjk)
  obtain ⟨o, -, h0, h1, h2⟩ :=
    exists_perm (f 0) (f 1) (f 2) (hne 0 1 (by decide)) (hne 0 2 (by decide)) (hne 1 2 (by decide))
  exact ⟨o, by simpa [Fin.forall_fin_succ] using ⟨h0, h1, h2⟩⟩

/-! ### The wire symbols (R89, R210) -/

theorem tickGovernor_marked (p : Params) (g : Governor) : (tickGovernor p g).marked = g.marked := by
  unfold tickGovernor
  split <;> rfl

theorem tickGovernor_elapsed (p : Params) {g : Governor} (hg : g.elapsed.toNat ≤ p.WAIT_TIME) :
    (tickGovernor p g).elapsed.toNat = min (g.elapsed.toNat + 1) p.WAIT_TIME := by
  have hmax : p.WAIT_TIME < 2 ^ 32 := p.waitTime.isLt
  unfold tickGovernor
  split
  · dsimp only
    bv_omega
  · omega

theorem tickTimes_marked (p : Params) (n : Nat) (g : Governor) : (tickTimes p n g).marked = g.marked := by
  induction n generalizing g with
  | zero => rfl
  | succ n ih => exact (ih _).trans (tickGovernor_marked p g)

/-- The counter saturates (R210). -/
theorem tickTimes_elapsed (p : Params) (n : Nat) {g : Governor} (hg : g.elapsed.toNat ≤ p.WAIT_TIME) :
    (tickTimes p n g).elapsed.toNat = min (g.elapsed.toNat + n) p.WAIT_TIME := by
  induction n generalizing g with
  | zero => exact (Nat.min_eq_left hg).symm
  | succ n ih =>
    have htick := tickGovernor_elapsed p hg
    rw [tickTimes, ih (tickGovernor_elapsed_le p hg), htick]
    omega

theorem bitLevels_reverse (p : Params) (b : Bool) :
    (bitLevels p b).reverse = List.replicate (lowCycles p b) false ++ List.replicate (highCycles p b) true := by
  rw [bitLevels, List.reverse_append, List.reverse_replicate, List.reverse_replicate]

theorem sendSymbol_eq (b : Bool) (s : State) :
    sendSymbol b s =
      { s with
        line := false
        gov := tickTimes s.params s.params.TB s.gov
        trace :=
          List.replicate (lowCycles s.params b) false ++ List.replicate (highCycles s.params b) true ++ s.trace } := by
  rw [← bitLevels_reverse]
  rfl

theorem exec_symbol (b : Bool) (s : State) : exec (if b then .bit1 else .bit0) s = .next (sendSymbol b s) := by
  cases b <;> rfl

/-! ### What the host can do to a busy block (R100, R101, R198) -/

/-- The meanings that a transaction word can have: no effect, a read, a write. -/
inductive PortMeaning (i : Instr) : Prop
  | ignored (h : ∀ s, exec i s = .next (cycle s))
  | read (w : State → Word) (h : ∀ s, exec i s = .next (readCycle (w s) s))
  | write (f : State → State) (h : ∀ s, exec i s = .next (writeCycle f s))

theorem PortMeaning.ite {c : Prop} [Decidable c] {i j : Instr} (hi : PortMeaning i) (hj : PortMeaning j) :
    PortMeaning (if c then i else j) := by
  split
  · exact hi
  · exact hj

theorem portMeaning_decodeRead (off : Offset) : PortMeaning (decodeRead off) := by
  repeat' apply PortMeaning.ite
  all_goals exact .read _ fun _ => rfl

/-- In the order of `decodeWrite`: the misaligned offsets, the two rows of `CMD`, `CFG`, `STATUS`, the seven other
configuration registers, the three read-only registers and the reserved offsets. -/
theorem portMeaning_decodeWrite (off : Offset) (d : Word) : PortMeaning (decodeWrite off d) :=
  .ite (.ignored fun _ => rfl) <| .ite (.ignored fun _ => rfl) <|
  .ite (.ite (.write _ fun _ => rfl) (.ignored fun _ => rfl)) <|
  .ite (.write _ fun _ => rfl) <| .ite (.ignored fun _ => rfl) <|
  .ite (.write _ fun _ => rfl) <| .ite (.write _ fun _ => rfl) <| .ite (.write _ fun _ => rfl) <|
  .ite (.write _ fun _ => rfl) <| .ite (.write _ fun _ => rfl) <| .ite (.write _ fun _ => rfl) <|
  .ite (.write _ fun _ => rfl) <|
  .ite (.ignored fun _ => rfl) <| .ite (.ignored fun _ => rfl) <| .ite (.ignored fun _ => rfl) <|
  .ite (.ignored fun _ => rfl) (.ignored fun _ => rfl)

theorem portMeaning_decodeTransaction (w : Transaction) : PortMeaning (decodeTransaction w) :=
  .ite (.ite (portMeaning_decodeWrite _ _) (portMeaning_decodeRead _)) (.ignored fun _ => rfl)

/-- The host asserts no reset in the cycles still to come. -/
abbrev NoReset (s : State) : Prop := ∀ c ∈ s.host, c.input ≠ .reset

/-- `t` is `s` but for what the host presents and is answered, and what it presents holds no new reset. -/
structure SameBlock (s t : State) : Prop where
  hide_eq : hideHost t = hideHost s
  noReset : NoReset s → NoReset t

namespace SameBlock

variable {s t : State}

theorem refl (s : State) : SameBlock s s := ⟨rfl, id⟩

theorem setRdata (h : SameBlock s t) (w : Option Word) : SameBlock s (t.setRdata w) := ⟨h.hide_eq, h.noReset⟩

theorem setRet (h : SameBlock s t) (r : ProcResult) : SameBlock s (t.setRet r) := ⟨h.hide_eq, h.noReset⟩

theorem pushHost (h : SameBlock s t) {l : List HostCycle} (hl : ∀ c ∈ l, c.input ≠ .reset) :
    SameBlock s (t.pushHost l) :=
  ⟨h.hide_eq, fun hs => List.forall_mem_append.mpr ⟨hl, h.noReset hs⟩⟩

theorem params_eq (h : SameBlock s t) : t.params = s.params := (congrArg State.params h.hide_eq :)
theorem enc_eq (h : SameBlock s t) : t.enc = s.enc := (congrArg State.enc h.hide_eq :)
theorem line_eq (h : SameBlock s t) : t.line = s.line := (congrArg State.line h.hide_eq :)
theorem trace_eq (h : SameBlock s t) : t.trace = s.trace := (congrArg State.trace h.hide_eq :)

end SameBlock

theorem readCycle_sameBlock (w : Word) (s : State) : SameBlock (cycle s) (readCycle w s) := .setRdata (.refl _) _

theorem writeCycle_sameBlock {s : State} (hbusy : s.busy = true) (f : State → State) :
    SameBlock (cycle s) (writeCycle f s) := by
  rw [writeCycle_busy f hbusy]
  exact .refl _

theorem exec_word_of_busy {s : State} (hbusy : s.busy = true) (w : Transaction) :
    ∃ t, exec (decodeTransaction w) s = .next t ∧ SameBlock (cycle s) t := by
  cases portMeaning_decodeTransaction w with
  | ignored h => exact ⟨_, h s, .refl _⟩
  | read w h => exact ⟨_, h s, readCycle_sameBlock _ s⟩
  | write f h => exact ⟨_, h s, writeCycle_sameBlock hbusy f⟩

/-- Whatever a busy block is presented, its cycle is that without an operation (R101, R198). -/
theorem exec_input_of_busy {s : State} (hbusy : s.busy = true) {input : HostInput} {i : Instr}
    (h : input.instr? = some i) : ∃ t, exec i s = .next t ∧ SameBlock (cycle s) t := by
  cases input with
  | word ht => cases h; exact exec_word_of_busy hbusy ht
  | start => cases h; exact ⟨_, rfl, writeCycle_sameBlock hbusy _⟩
  | poll =>
    cases h
    refine ⟨_, rfl, ?_⟩
    split
    · exact (readCycle_sameBlock _ s).pushHost (by simp [pollCycle])
    · exact readCycle_sameBlock _ s
  | has n => cases h; exact ⟨_, rfl, (readCycle_sameBlock _ s).setRet _⟩
  | showFrame base n =>
    cases h
    exact ⟨_, rfl, (writeCycle_sameBlock hbusy _).pushHost (by simp [wordCycle, pollCycle])⟩
  | reset => cases h

/-! The stores of the host's cycle change the pixel memory only. -/

@[simp] theorem fetched_params (s : State) : (fetched s).params = s.params := by unfold fetched; split <;> rfl
@[simp] theorem fetched_enc (s : State) : (fetched s).enc = s.enc := by unfold fetched; split <;> rfl
@[simp] theorem fetched_line (s : State) : (fetched s).line = s.line := by unfold fetched; split <;> rfl
@[simp] theorem fetched_trace (s : State) : (fetched s).trace = s.trace := by unfold fetched; split <;> rfl

theorem fetched_host (s : State) : (fetched s).host = s.host.tail := by
  unfold fetched
  split
  next h => rw [h]; rfl
  next h => rw [h]; rfl

theorem fetched_noReset {s : State} (h : NoReset s) : NoReset (fetched s) :=
  fun c hc => h c (List.mem_of_mem_tail (fetched_host s ▸ hc))

theorem step_of_busy {s : State} (hbusy : s.busy = true) (hreset : NoReset s) :
    ∃ t, step s = .next t ∧ SameBlock (cycle (fetched s)) t := by
  have hfetched : (fetched s).busy = true := by rw [State.busy, fetched_enc]; exact hbusy
  unfold step
  split
  next hnil => exact ⟨cycle s, rfl, by rw [fetched, hnil]; exact .refl _⟩
  next c rest hcons =>
    split
    next i hi => exact exec_input_of_busy hfetched hi
    next hnone =>
      have hc : c.input ≠ .reset := hreset c (by rw [hcons]; exact List.mem_cons_self ..)
      cases hinput : c.input with
      | reset => exact absurd hinput hc
      | word | start | poll | has | showFrame => rw [hinput] at hnone; cases hnone

/-! ### Runs and what they put on the wire -/

theorem steps_add {m n : Nat} {s t u : State} (h : steps m s = .next t) (k : steps n t = .next u) :
    steps (m + n) s = .next u := by
  induction m generalizing s with
  | zero =>
    cases h
    rwa [Nat.zero_add]
  | succ m ih =>
    rw [Nat.succ_add]
    unfold steps at h ⊢
    cases hs : step s with
    | next s' => rw [hs] at h; exact ih h
    | fault r => rw [hs] at h; cases h
    | refused r => rw [hs] at h; cases h

/-- In as many cycles as there are levels the machine gets from `s` to `t`, with these levels on the line, the oldest
first; no reset comes afterwards. -/
structure Carries (levels : List Bool) (s t : State) : Prop where
  run : steps levels.length s = .next t
  trace_eq : t.trace = levels.reverse ++ s.trace
  params_eq : t.params = s.params
  noReset : NoReset t

theorem Carries.refl {s : State} (hreset : NoReset s) : Carries [] s s := ⟨rfl, rfl, rfl, hreset⟩

theorem Carries.append {l l' : List Bool} {s t u : State} (h : Carries l s t) (k : Carries l' t u) :
    Carries (l ++ l') s u where
  run := by rw [List.length_append]; exact steps_add h.run k.run
  trace_eq := by rw [k.trace_eq, h.trace_eq, List.reverse_append, List.append_assoc]
  params_eq := k.params_eq.trans h.params_eq
  noReset := k.noReset

/-- A cycle of a busy block puts the line's level on the wire; its encoder and its line are those that the encoder's
step leaves from some state with the same parameters, encoder and line (R12, R198). -/
theorem carries_cycle {s : State} (hbusy : s.busy = true) (hreset : NoReset s) :
    ∃ gap r t, (r.params = s.params ∧ r.enc = s.enc ∧ r.line = s.line) ∧ Carries [s.line] s t ∧
      t.enc = (encoderStep gap r).enc ∧ t.line = (encoderStep gap r).line := by
  obtain ⟨t, hstep, hsame⟩ := step_of_busy hbusy hreset
  obtain ⟨hparams, -, hhost, -, -, -, htrace⟩ := cycle_env (fetched s)
  refine ⟨(fetched s).gapOk, tick (fetched s), t, ⟨fetched_params s, fetched_enc s, fetched_line s⟩,
    ⟨?_, ?_, ?_, ?_⟩, hsame.enc_eq, hsame.line_eq⟩
  · change steps 1 s = _
    rw [steps, hstep]
    rfl
  · rw [hsame.trace_eq, htrace, fetched_line, fetched_trace]
    rfl
  · rw [hsame.params_eq, hparams, fetched_params]
  · exact hsame.noReset fun c hc => fetched_noReset hreset c (hhost ▸ hc)

/-! ### The steps of a bit period, by the place in the phase (R184, R185, R186) -/

theorem busy_of_sending {s : State} (h : s.enc.st.sending = true) : s.busy = true := by
  unfold State.busy
  cases hst : s.enc.st with
  | idle | wait | done => rw [hst] at h; cases h
  | highBase | highVar | low => rfl

theorem encoderStep_samePhase (gap : Bool) {s : State} (hs : s.enc.st.sending = true)
    (hph : s.enc.ph.toNat < phaseLength s.params s.enc - 1) : encoderStep gap s = s.nextPhase := by
  unfold phaseLength at hph
  unfold encoderStep
  cases hst : s.enc.st with
  | idle | wait | done => rw [hst] at hs; cases hs
  | highBase | highVar | low =>
    rw [hst] at hph
    exact if_pos hph

theorem encoderStep_highBase_last (gap : Bool) {s : State} (hst : s.enc.st = .highBase) (hlast : LastPhaseCycle s) :
    encoderStep gap s =
      if s.enc.sr.getLsbD 7 = true ∧ 1 ≤ s.params.T2 then (testBit s).goto .highVar else beginLow (testBit s) := by
  simp only [LastPhaseCycle, phaseLength, hst] at hlast
  simp only [encoderStep, hst]
  exact if_neg hlast

theorem encoderStep_highVar_last (gap : Bool) {s : State} (hst : s.enc.st = .highVar) (hlast : LastPhaseCycle s) :
    encoderStep gap s = beginLow (restartPhase s) := by
  simp only [LastPhaseCycle, phaseLength, hst] at hlast
  simp only [encoderStep, hst]
  exact if_neg hlast

theorem encoderStep_low_last (gap : Bool) {s : State} (hst : s.enc.st = .low) (hlast : LastPhaseCycle s) :
    encoderStep gap s =
      if s.enc.bitn.toNat < 7 then endOfBit (restartPhase s)
      else if s.enc.slot.val < 2 then endOfByte (restartPhase s)
      else endOfPixel (restartPhase s) := by
  simp only [LastPhaseCycle, phaseLength, hst] at hlast
  simp only [encoderStep, hst]
  exact if_neg hlast

/-! ### One phase -/

/-- Before the last cycle of a phase only the phase counter moves. -/
theorem carries_samePhase {n : Nat} {s : State} (hs : s.enc.st.sending = true)
    (hph : s.enc.ph.toNat + n < phaseLength s.params s.enc) (hreset : NoReset s) :
    ∃ t ph, Carries (List.replicate n s.line) s t ∧ t.enc = { s.enc with ph := ph } ∧
      ph.toNat = s.enc.ph.toNat + n ∧ t.line = s.line := by
  induction n generalizing s with
  | zero => exact ⟨s, s.enc.ph, .refl hreset, rfl, rfl, rfl⟩
  | succ n ih =>
    have hmax := phaseLength_lt s.params s.enc
    obtain ⟨gap, r, t, ⟨hparams, henc, hline⟩, ht, htenc, htline⟩ := carries_cycle (busy_of_sending hs) hreset
    rw [encoderStep_samePhase gap (henc ▸ hs) (by rw [hparams, henc]; omega)] at htenc htline
    rw [State.nextPhase_enc, henc] at htenc
    rw [State.nextPhase_line, hline] at htline
    have hsucc : t.enc.ph.toNat = s.enc.ph.toNat + 1 := by
      rw [htenc]
      dsimp only
      bv_omega
    have hlen : phaseLength t.params t.enc = phaseLength s.params s.enc := by
      rw [ht.params_eq, htenc]
      rfl
    obtain ⟨u, ph, hu, huenc, huph, huline⟩ := ih (s := t) (by rw [htenc]; exact hs) (by omega) ht.noReset
    refine ⟨u, ph, ?_, by rw [huenc, htenc], by omega, huline.trans htline⟩
    rw [htline] at hu
    exact ht.append hu

/-- A phase from its first cycle: the line holds its level, and what the phase leaves is the encoder's step in its last
cycle. -/
theorem carries_phase {s : State} (hs : s.enc.st.sending = true) (hph : s.enc.ph = 0)
    (hpos : 0 < phaseLength s.params s.enc) (hreset : NoReset s) :
    ∃ gap r t, (r.params = s.params ∧ r.line = s.line ∧ ∃ ph, r.enc = { s.enc with ph := ph }) ∧ LastPhaseCycle r ∧
      Carries (List.replicate (phaseLength s.params s.enc) s.line) s t ∧
      t.enc = (encoderStep gap r).enc ∧ t.line = (encoderStep gap r).line := by
  obtain ⟨n, hn⟩ := Nat.exists_eq_add_one.mpr hpos
  have hzero : s.enc.ph.toNat = 0 := by rw [hph]; rfl
  obtain ⟨u, ph, hu, huenc, huph, huline⟩ := carries_samePhase (n := n) hs (by omega) hreset
  have husending : u.enc.st.sending = true := by rw [huenc]; exact hs
  obtain ⟨gap, r, t, ⟨hparams, henc, hline⟩, ht, htenc, htline⟩ := carries_cycle (busy_of_sending husending) hu.noReset
  have hrlen : phaseLength r.params r.enc = phaseLength s.params s.enc := by
    rw [hparams, hu.params_eq, henc, huenc]
    rfl
  have hrph : r.enc.ph.toNat = n := by rw [henc, huenc, huph, hzero, Nat.zero_add]
  refine ⟨gap, r, t, ⟨hparams.trans hu.params_eq, hline.trans huline, ph, henc.trans huenc⟩, by omega, ?_, htenc,
    htline⟩
  rw [hn, List.replicate_add]
  rw [huline] at ht
  exact hu.append ht

/-! ### One bit (R191) -/

/-- The first cycle of a bit. -/
abbrev BitBegins (e : Encoder) (line : Bool) : Prop := e.st = .highBase ∧ e.ph = 0 ∧ line = true

/-- The encoder after the bit was tested and shifted out, at the first cycle of a phase of the state `st` (R184). -/
def testedEnc (e : Encoder) (st : EncState) : Encoder :=
  { e with st := st, ph := 0, cb := e.sr.getLsbD 7, sr := e.sr <<< 1 }

/-- A variable high part follows the first one: the bit is a 1, and `T2` is not 0 (R184). -/
abbrev HasHighVar (s : State) : Prop := s.enc.sr.getLsbD 7 = true ∧ 1 ≤ s.params.T2

theorem carries_highBase {s : State} (hbegin : BitBegins s.enc s.line) (hreset : NoReset s) :
    ∃ t, Carries (List.replicate s.params.T1 true) s t ∧
      t.enc = testedEnc s.enc (if HasHighVar s then .highVar else .low) ∧ t.line = decide (HasHighVar s) := by
  obtain ⟨hst, hph, hline⟩ := hbegin
  have hlen : phaseLength s.params s.enc = s.params.T1 := by rw [phaseLength, hst]
  obtain ⟨gap, r, t, ⟨hrparams, hrline, ph, hrenc⟩, hlast, ht, htenc, htline⟩ :=
    carries_phase (by rw [hst]; rfl) hph (by rw [hlen]; exact Nat.succ_pos _) hreset
  have hsr : r.enc.sr = s.enc.sr := by rw [hrenc]
  have htested : (testBit r).enc = testedEnc s.enc s.enc.st := by
    rw [testBit, State.setEnc_enc, hrenc]
    rfl
  rw [encoderStep_highBase_last gap (by rw [hrenc]; exact hst) hlast, hrparams, hsr] at htenc htline
  rw [hlen, hline] at ht
  refine ⟨t, ht, ?_⟩
  by_cases hvar : HasHighVar s
  · rw [if_pos hvar] at htenc htline ⊢
    rw [htenc, State.goto_enc, htested, htline, decide_eq_true hvar]
    exact ⟨rfl, hrline.trans hline⟩
  · rw [if_neg hvar] at htenc htline ⊢
    rw [htenc, htline, decide_eq_false hvar, beginLow, setLow, State.setLine_enc, State.goto_enc, htested]
    exact ⟨rfl, rfl⟩

theorem carries_highVar {s : State} (hst : s.enc.st = .highVar) (hph : s.enc.ph = 0) (hline : s.line = true)
    (hT2 : 1 ≤ s.params.T2) (hreset : NoReset s) :
    ∃ t, Carries (List.replicate s.params.T2 true) s t ∧ t.enc = { s.enc with st := .low, ph := 0 } ∧
      t.line = false := by
  have hlen : phaseLength s.params s.enc = s.params.T2 := by rw [phaseLength, hst]
  obtain ⟨gap, r, t, ⟨-, -, ph, hrenc⟩, hlast, ht, htenc, htline⟩ :=
    carries_phase (by rw [hst]; rfl) hph (by rw [hlen]; exact hT2) hreset
  rw [encoderStep_highVar_last gap (by rw [hrenc]; exact hst) hlast] at htenc htline
  rw [hlen, hline] at ht
  refine ⟨t, ht, ?_, htline⟩
  rw [htenc, beginLow, setLow, State.setLine_enc, State.goto_enc, restartPhase, State.setEnc_enc, hrenc]

theorem highCycles_of_not_hasHighVar {s : State} (h : ¬ HasHighVar s) :
    highCycles s.params (s.enc.sr.getLsbD 7) = s.params.T1 := by
  unfold highCycles
  split
  next hbit =>
    have hT2 : ¬ 1 ≤ s.params.T2 := fun hT2 => h ⟨hbit, hT2⟩
    omega
  next => rfl

/-- The high part of a bit period is that of the first bit of the shift register, and shifts it out (R184, R185). -/
theorem carries_high {s : State} (hbegin : BitBegins s.enc s.line) (hreset : NoReset s) :
    ∃ t, Carries (List.replicate (highCycles s.params (s.enc.sr.getLsbD 7)) true) s t ∧
      t.enc = testedEnc s.enc .low ∧ t.line = false := by
  obtain ⟨t, ht, htenc, htline⟩ := carries_highBase hbegin hreset
  by_cases hvar : HasHighVar s
  · rw [if_pos hvar] at htenc
    rw [decide_eq_true hvar] at htline
    obtain ⟨hbit, hT2⟩ := hvar
    obtain ⟨u, hu, huenc, huline⟩ :=
      carries_highVar (by rw [htenc]; rfl) (by rw [htenc]; rfl) htline (ht.params_eq ▸ hT2) ht.noReset
    refine ⟨u, ?_, by rw [huenc, htenc]; rfl, huline⟩
    rw [ht.params_eq] at hu
    rw [highCycles, if_pos hbit, List.replicate_add]
    exact ht.append hu
  · rw [if_neg hvar] at htenc
    rw [decide_eq_false hvar] at htline
    rw [highCycles_of_not_hasHighVar hvar]
    exact ⟨t, ht, htenc, htline⟩

/-- What the end of bit `bitn` of a byte leaves in the encoder and on the line, with `sr` left of the byte: the next bit
of the byte begins; or, after the last bit, another byte begins or the frame is done (R186 to R190). -/
inductive BitEnds (bitn : BitVec 3) (sr : Byte) (e : Encoder) (line : Bool) : Prop
  | sameByte (hbit : bitn.toNat < 7) (hbegin : BitBegins e line) (hbitn : e.bitn = bitn + 1) (hsr : e.sr = sr)
  | byteEnd (hbit : bitn.toNat = 7) (hbitn : e.bitn = 0) (hend : BitBegins e line ∨ e.st = .done ∧ line = false)

theorem encoderStep_bitEnds (gap : Bool) {s : State} (hst : s.enc.st = .low) (hlast : LastPhaseCycle s) :
    BitEnds s.enc.bitn s.enc.sr (encoderStep gap s).enc (encoderStep gap s).line := by
  rw [encoderStep_low_last gap hst hlast]
  split
  next hbit => exact .sameByte hbit ⟨rfl, rfl, rfl⟩ rfl rfl
  next hbit =>
    have hbit7 : s.enc.bitn.toNat = 7 := by
      have hlt : s.enc.bitn.toNat < 2 ^ 3 := s.enc.bitn.isLt
      omega
    split
    next => exact .byteEnd hbit7 rfl (.inl ⟨rfl, rfl, rfl⟩)
    next =>
      unfold endOfPixel
      dsimp only
      split
      next => exact .byteEnd hbit7 rfl (.inr ⟨rfl, rfl⟩)
      next => exact .byteEnd hbit7 rfl (.inl ⟨rfl, rfl, rfl⟩)

theorem carries_low {s : State} (hst : s.enc.st = .low) (hph : s.enc.ph = 0) (hline : s.line = false)
    (hreset : NoReset s) :
    ∃ t, Carries (List.replicate (lowCycles s.params s.enc.cb) false) s t ∧
      BitEnds s.enc.bitn s.enc.sr t.enc t.line := by
  have hlen : phaseLength s.params s.enc = lowCycles s.params s.enc.cb := by
    rw [phaseLength, hst, ← lowLen_eq_lowCycles]
  obtain ⟨gap, r, t, ⟨-, -, ph, hrenc⟩, hlast, ht, htenc, htline⟩ :=
    carries_phase (by rw [hst]; rfl) hph (by rw [hlen]; exact lowLen_pos _ _) hreset
  have hends := encoderStep_bitEnds gap (by rw [hrenc]; exact hst) hlast
  rw [← htenc, ← htline, hrenc] at hends
  rw [hlen, hline] at ht
  exact ⟨t, ht, hends⟩

/-- A bit period carries the symbol of the first bit of the shift register (R191). -/
theorem carries_bit {s : State} (hbegin : BitBegins s.enc s.line) (hreset : NoReset s) :
    ∃ t, Carries (bitLevels s.params (s.enc.sr.getLsbD 7)) s t ∧
      BitEnds s.enc.bitn (s.enc.sr <<< 1) t.enc t.line := by
  obtain ⟨t, ht, htenc, htline⟩ := carries_high hbegin hreset
  obtain ⟨u, hu, hends⟩ := carries_low (by rw [htenc]; rfl) (by rw [htenc]; rfl) htline ht.noReset
  rw [ht.params_eq, htenc] at hu
  rw [htenc] at hends
  exact ⟨u, ht.append hu, hends⟩

theorem length_bitLevels (p : Params) (b : Bool) : (bitLevels p b).length = p.TB := by
  rw [bitLevels, List.length_append, List.length_replicate, List.length_replicate]
  cases b with
  | false => exact (Nat.add_assoc _ _ _).symm
  | true => rfl

/-! ### One byte (R192) -/

/-- The next `n` bits that a shift register sends. -/
def shiftedBits : Nat → Byte → List Bool
  | 0, _ => []
  | n + 1, sr => sr.getLsbD 7 :: shiftedBits n (sr <<< 1)

theorem shiftedBits_eight (o : Byte) : shiftedBits 8 o = byteBits o := by
  simp [shiftedBits, byteBits]

/-- From bit `7 - n` on a byte takes `n + 1` bit periods. -/
theorem carries_bits {n : Nat} {s : State} (hbegin : BitBegins s.enc s.line) (hbitn : s.enc.bitn.toNat + n = 7)
    (hreset : NoReset s) :
    ∃ t, Carries ((shiftedBits (n + 1) s.enc.sr).map (bitLevels s.params)).flatten s t ∧ t.enc.bitn = 0 ∧
      (BitBegins t.enc t.line ∨ t.enc.st = .done ∧ t.line = false) := by
  induction n generalizing s with
  | zero =>
    obtain ⟨t, ht, hends⟩ := carries_bit hbegin hreset
    cases hends with
    | sameByte hbit => omega
    | byteEnd _ hzero hend =>
      refine ⟨t, ?_, hzero, hend⟩
      simpa [shiftedBits] using ht
  | succ n ih =>
    obtain ⟨t, ht, hends⟩ := carries_bit hbegin hreset
    cases hends with
    | byteEnd hbit => omega
    | sameByte hbit hnext hsucc hsr =>
      obtain ⟨u, hu, hzero, hend⟩ := ih (s := t) hnext (by rw [hsucc]; bv_omega) ht.noReset
      refine ⟨u, ?_, hzero, hend⟩
      rw [hsr, ht.params_eq] at hu
      exact ht.append hu

theorem carries_byte {s : State} (hbegin : BitBegins s.enc s.line) (hbitn : s.enc.bitn = 0) (hreset : NoReset s) :
    ∃ t, Carries (byteLevels s.params s.enc.sr) s t ∧ t.enc.bitn = 0 ∧
      (BitBegins t.enc t.line ∨ t.enc.st = .done ∧ t.line = false) := by
  have h := carries_bits (n := 7) hbegin (by rw [hbitn]; rfl) hreset
  rwa [shiftedBits_eight] at h

theorem length_byteLevels (p : Params) (o : Byte) : (byteLevels p o).length = 8 * p.TB := by
  simp [byteLevels, byteBits, length_bitLevels]
  omega

end Sys2Proof.Machine

/-! ### The obligations of 30_encoding.md -/

namespace Sys2Proof.Claims

open Sys2Proof.Machine

/-- Settles O3: the word of a row decodes to the row at its offset, and the operands a row fixes in part pick the row
again. -/
theorem encodedOperationDecodesBack : Obligations.EncodedOperationDecodesBack := by
  intro i hwf
  cases i with
  | nop => exact decode_ht 0
  | rdCmd | rdCfg | rdStatus | rdBase | rdCount | rdAdvance | rdLaneOff | rdBright | rdCorr | rdBias | rdDstate
  | rdRemain | rdCursor | rdRsvd34 => exact decode_readWord _
  | rdRsvd38 off => exact (decode_readWord off).trans (congrArg _ (decodeRead_reserved38 hwf))
  | rdMisalOdd off => exact (decode_readWord off).trans (congrArg _ (decodeRead_odd hwf))
  | rdMisal2 off => exact (decode_readWord off).trans (congrArg _ (decodeRead_evenMisaligned hwf))
  | wrCmdStart d => exact (decode_writeWord 0x00 d).trans (congrArg _ (if_pos hwf))
  | wrCmdNone d =>
    have hbit : ¬ d.getLsbD 0 = true := Bool.eq_false_iff.mp ((Bool.not_eq_true' _).mp hwf)
    exact (decode_writeWord 0x00 d).trans (congrArg _ (if_neg hbit))
  | wrCfg d | wrStatus d | wrBase d | wrCount d | wrAdvance d | wrLaneOff d | wrBright d | wrCorr d | wrBias d
  | wrDstate d | wrRemain d | wrCursor d | wrRsvd34 d => exact decode_writeWord _ d
  | wrRsvd38 off d => exact (decode_writeWord off d).trans (congrArg _ (decodeWrite_reserved38 d hwf))
  | wrMisalOdd off d => exact (decode_writeWord off d).trans (congrArg _ (decodeWrite_odd d hwf))
  | wrMisal2 off d => exact (decode_writeWord off d).trans (congrArg _ (decodeWrite_evenMisaligned d hwf))
  | stepIdle | stepWait | stepHighBase | stepHighVar | stepLow | stepDone | bit0 | bit1 => rfl
  | adjust | scale | construct | loadByte | advancePixel | has | endOfBit | endOfByte | endOfPixel | finish | tick
  | wait | mark | setHigh | setLow | toggle | pseudoStart | pseudoPoll | pseudoHas | pseudoShow =>
    simp [encode, Instr.mnemonic]

/-- Settles O51: a bit period carries the levels that the symbol of the bit records. -/
theorem oneBitOnTheWire : Obligations.OneBitOnTheWire := by
  intro s hst hph hline hreset
  obtain ⟨t, ht, hends⟩ := carries_bit ⟨hst, hph, hline⟩ hreset
  have hrun := ht.run
  rw [length_bitLevels] at hrun
  refine ⟨t, _, hrun, exec_symbol _ s, ht.trace_eq, ?_⟩
  cases hends with
  | sameByte _ hnext => exact .inl hnext
  | byteEnd _ _ hend => exact hend

/-- Settles O52, by induction on the bits still to be sent. -/
theorem oneByteOnTheWire : Obligations.OneByteOnTheWire := by
  intro s hst hph hbitn hline hreset
  obtain ⟨t, ht, hzero, hend⟩ := carries_byte ⟨hst, hph, hline⟩ hbitn hreset
  have hrun := ht.run
  rw [length_byteLevels] at hrun
  exact ⟨t, hrun, ht.trace_eq, hzero, hend⟩

/-- Settles O4: the row of the decoded operation selects the word, and no other does. -/
theorem everyWordSelectsExactlyOneRow : Obligations.EveryWordSelectsExactlyOneRow := by
  refine ⟨rfl, fun w => ?_⟩
  obtain ⟨row, hrow, hselects, hname⟩ := exists_row w
  rw [filter_eq_singleton_of_pairwise hrow hselects (hostRows_disjoint w), List.map_singleton, hname]

/-- Settles O5, by the branches of the decoder. -/
theorem decodedWordEncodesBack : Obligations.DecodedWordEncodesBack :=
  fun w => ⟨(decodeTransaction_encodes w).wellFormed, (decodeTransaction_encodes w).encode_eq⟩

/-- Settles O40, by induction on the ticks of a bit period. -/
theorem wireSymbols : Obligations.WireSymbols := by
  intro s
  refine ⟨_, _, ?_, congrArg _ (sendSymbol_eq false s), congrArg _ (sendSymbol_eq true s)⟩
  rintro g (rfl | rfl) <;> exact ⟨tickTimes_marked .., tickTimes_elapsed _ _⟩

/-- Settles O1: in the state where the stores have landed each input runs the operation it stands for. -/
theorem stepRunsTheDecodedOperation : Obligations.StepRunsTheDecodedOperation := by
  intro s
  refine ⟨fun hnil => by rw [step, hnil], ?_⟩
  rintro st rest u rfl
  have hstep : ∀ input i, s.host = ⟨st, input⟩ :: rest → input.instr? = some i →
      step s = exec i { s with host := rest, mem := Memory.writeAll s.mem st } := by
    intro input i hhost hi
    rw [step, hhost]
    simp only [hi, fetched, hhost]
    rfl
  refine ⟨fun ht i hhost hdecode => ?_, fun hhost => hstep _ _ hhost rfl, fun hhost => hstep _ _ hhost rfl,
    fun n hhost => hstep _ _ hhost rfl, fun b n hhost => hstep _ _ hhost rfl⟩
  obtain rfl : decodeTransaction ht = i := Except.ok.inj ((decode_ht ht).symm.trans hdecode)
  exact ⟨(decodeTransaction_encodes ht).wellFormed, hstep _ _ hhost rfl⟩

/-- Settles O2: twenty words, each decoded. -/
theorem writtenWordsDecode : Obligations.WrittenWordsDecode := by
  unfold Obligations.WrittenWordsDecode
  decide

/-- Settles O10: each read answers its register's word, and the words of the reset values are those of R81. -/
theorem registersReadTheirResetValues : Obligations.RegistersReadTheirResetValues := by
  intro p m h
  refine ⟨?cmd, ?cfg, ?status, ?base, ?count, ?advance, ?laneOff, ?bright, ?corr, ?bias, ?dstate, ?remain, ?cursor,
    ?rsvd34, ?rsvd38, ?rsvd3C⟩
  case cfg => exact answers_of_readCycle rfl cfgWord_reset
  case status => exact answers_of_readCycle rfl (statusWord_reset p m h)
  case bright => exact answers_of_readCycle rfl brightWord_reset
  case corr => exact answers_of_readCycle rfl packWord_corr_reset
  case bias => exact answers_of_readCycle rfl packWord_bias_reset
  case dstate => exact answers_of_readCycle rfl packWord_d_reset
  all_goals exact answers_of_readCycle rfl rfl

/-- Settles O36, by the six orders. -/
theorem channelOrderTable : Obligations.ChannelOrderTable :=
  ⟨rfl, inv_perm, perm_inv, exists_code_iff, fun _ => exists_perm_of_injective⟩

/-- Settles O41: each pseudo-operation runs the first line of its expansion, and the words of `show` decode to the two
writes that are left. -/
theorem pseudoOperations : Obligations.PseudoOperations := by
  intro s base n
  exact ⟨⟨_, rfl, rfl⟩, ⟨_, _, rfl, rfl, rfl⟩, ⟨_, _, rfl, rfl, rfl⟩,
    ⟨_, _, _, rfl, decodeTransaction_writeWord 0x10 n, decodeTransaction_writeWord 0x00 1, rfl⟩⟩

end Sys2Proof.Claims

namespace Sys2Proof.Machine

open Sys2Proof.Claims

/-! ### Flags, words and runs -/

/-- A block that is not busy rests (R53, R101). -/
theorem resting_iff {s : State} : Resting s ↔ s.busy = false := by
  unfold Resting State.busy
  cases s.enc.st <;> simp [EncState.busy]

theorem busy_iff (s : State) :
    s.busy = true ↔ s.enc.st = .wait ∨ s.enc.st = .highBase ∨ s.enc.st = .highVar ∨ s.enc.st = .low := by
  unfold State.busy
  cases s.enc.st <;> simp [EncState.busy]

theorem done_iff (s : State) : s.done = true ↔ s.enc.st = .done := beq_iff_eq

theorem gapOk_iff (s : State) : s.gapOk = true ↔ GapHolds s := by
  simp [State.gapOk]

theorem tickGovernor_eq_ticked (s : State) :
    tickGovernor s.params s.gov = { s.gov with elapsed := ticked s } := by
  unfold tickGovernor ticked
  split <;> rfl

theorem steps_succ {n : Nat} {s t : State} (h : step s = .next t) : steps (n + 1) s = steps n t := by
  rw [steps, h]

theorem steps_one {s t : State} (h : step s = .next t) : steps 1 s = .next t := steps_succ h

/-! ### The block does not see the host (R101, R198) -/

/-- No step of the encoder looks at the host's lines or at the answers. -/
theorem encoderStep_hideHost (gap : Bool) (s : State) :
    encoderStep gap (hideHost s) = hideHost (encoderStep gap s) := by
  have henc : (hideHost s).enc = s.enc := rfl
  unfold encoderStep
  rw [henc]
  cases s.enc.st with
  | idle | done => rfl
  | wait => simp only [stepWait, apply_ite hideHost]; rfl
  | highBase => simp only [stepHighBase, apply_ite hideHost]; rfl
  | highVar => simp only [stepHighVar, apply_ite hideHost]; rfl
  | low => simp only [stepLow, endOfPixel, apply_ite hideHost]; rfl

theorem cycle_hideHost (s : State) : cycle (hideHost s) = hideHost (cycle s) := by
  have hblock : blockStep (hideHost s) = hideHost (blockStep s) := encoderStep_hideHost s.gapOk (tick s)
  rw [cycle, hblock]
  rfl

/-- Two states that differ only in the host's lines and the answers take the same cycle. -/
theorem hideHost_cycle_congr {s s' : State} (h : hideHost s = hideHost s') :
    hideHost (cycle s) = hideHost (cycle s') := by
  rw [← cycle_hideHost, ← cycle_hideHost, h]

/-! ### A host that keeps the contract of a frame (R252, R256) -/

/-- Every cycle that the host has still to come keeps the contract of a frame. -/
abbrev KeepsContract (s : State) : Prop := ∀ c ∈ s.host, c.keepsContract

theorem KeepsContract.noReset {s : State} (h : KeepsContract s) : NoReset s := fun c hc => (h c hc).2

/-- Without stores the state in which the host's input runs is the state during the cycle, but for the host. -/
theorem hideHost_fetched {s : State} (h : KeepsContract s) : hideHost (fetched s) = hideHost s := by
  unfold fetched
  split
  next => rfl
  next c rest hcons =>
    have hstores : c.stores = [] := (h c (by rw [hcons]; exact List.mem_cons_self ..)).1
    rw [hstores]
    rfl

theorem cycle_keepsContract {s : State} (h : KeepsContract s) : KeepsContract (cycle s) := by
  obtain ⟨-, -, hhost, -⟩ := cycle_env s
  intro c hc
  exact h c (hhost ▸ hc)

theorem fetched_keepsContract {s : State} (h : KeepsContract s) : KeepsContract (fetched s) :=
  fun c hc => h c (List.mem_of_mem_tail (fetched_host s ▸ hc))

theorem pushHost_keepsContract {s : State} {l : List HostCycle} (hl : ∀ c ∈ l, c.keepsContract)
    (h : KeepsContract s) : KeepsContract (s.pushHost l) :=
  List.forall_mem_append.mpr ⟨hl, h⟩

theorem wordCycle_keepsContract (w : Transaction) : (wordCycle w).keepsContract := ⟨rfl, nofun⟩

theorem pollCycle_keepsContract : pollCycle.keepsContract := ⟨rfl, nofun⟩

/-- What a busy block is presented leaves the coming cycles in the contract: the lines that `poll` and `show` put before
them are words and polls without stores. -/
theorem exec_input_keepsContract {s t : State} (hbusy : s.busy = true) {input : HostInput} {i : Instr}
    (h : input.instr? = some i) (hexec : exec i s = .next t) (hs : KeepsContract s) : KeepsContract t := by
  have hcycle := cycle_keepsContract hs
  have hwrite : ∀ f, KeepsContract (writeCycle f s) := fun f => by rwa [writeCycle_busy f hbusy]
  cases input with
  | word ht =>
    cases h
    cases portMeaning_decodeTransaction ht with
    | ignored h => cases (h s).symm.trans hexec; exact hcycle
    | read w h => cases (h s).symm.trans hexec; exact hcycle
    | write f h => cases (h s).symm.trans hexec; exact hwrite f
  | start => cases h; cases hexec; exact hwrite _
  | poll =>
    cases h
    cases hexec
    split
    · exact pushHost_keepsContract (List.forall_mem_singleton.mpr pollCycle_keepsContract) hcycle
    · exact hcycle
  | has n => cases h; cases hexec; exact hcycle
  | showFrame base n =>
    cases h
    cases hexec
    refine pushHost_keepsContract ?_ (hwrite _)
    exact List.forall_mem_cons.mpr ⟨wordCycle_keepsContract _,
      List.forall_mem_cons.mpr ⟨wordCycle_keepsContract _, List.forall_mem_singleton.mpr pollCycle_keepsContract⟩⟩
  | reset => cases h

theorem step_keepsContract {s t : State} (hbusy : s.busy = true) (hs : KeepsContract s) (h : step s = .next t) :
    KeepsContract t := by
  have hfetched := fetched_keepsContract hs
  unfold step at h
  split at h
  next => cases h; exact cycle_keepsContract hs
  next =>
    split at h
    next i hi => exact exec_input_keepsContract (by rw [State.busy, fetched_enc]; exact hbusy) hi h hfetched
    next => cases h; exact hfetched

/-- Whatever a host in the contract presents to a busy block, the step is the block's own cycle, but for the host's side
(R101, R197, R198). -/
theorem step_of_busy_contract {s : State} (hbusy : s.busy = true) (hs : KeepsContract s) :
    ∃ t, step s = .next t ∧ hideHost t = hideHost (cycle s) ∧ KeepsContract t := by
  obtain ⟨t, hstep, hsame⟩ := step_of_busy hbusy hs.noReset
  exact ⟨t, hstep, hsame.hide_eq.trans (hideHost_cycle_congr (hideHost_fetched hs)),
    step_keepsContract hbusy hs hstep⟩

/-! ### The meanings of the host's rows (R93, R100, R101) -/

/-- What the row of a host operation does, with the word it has: nothing, a read, a write that is ignored, one of the
configuration, a START. -/
inductive HostMeaning (i : Instr) : Prop
  | nop (hi : i = .nop)
  | read (off : Offset) (w : State → Word) (henc : encode i = encodeRead off)
      (h : ∀ s, exec i s = .next (readCycle (w s) s))
  | ignored (off : Offset) (d : Word) (henc : encode i = encodeWrite off d) (h : ∀ s, exec i s = .next (cycle s))
  | writeRegs (off : Offset) (d : Word) (f : Regs → Regs) (henc : encode i = encodeWrite off d)
      (h : ∀ s, exec i s = .next (writeCycle (writeRegs f) s))
  | start (d : Word) (hi : i = .wrCmdStart d)

theorem hostMeaning_of_isHost {i : Instr} (h : isHost i = true) : HostMeaning i := by
  cases i with
  | nop => exact .nop rfl
  | rdCmd | rdCfg | rdStatus | rdBase | rdCount | rdAdvance | rdLaneOff | rdBright | rdCorr | rdBias | rdDstate
  | rdRemain | rdCursor | rdRsvd34 | rdRsvd38 | rdMisalOdd | rdMisal2 => exact .read _ _ rfl fun _ => rfl
  | wrCmdNone | wrStatus | wrDstate | wrRemain | wrCursor | wrRsvd34 | wrRsvd38 | wrMisalOdd | wrMisal2 =>
    exact .ignored _ _ rfl fun _ => rfl
  | wrCfg | wrBase | wrCount | wrAdvance | wrLaneOff | wrBright | wrCorr | wrBias =>
    exact .writeRegs _ _ _ rfl fun _ => rfl
  | wrCmdStart d => exact .start d rfl
  | stepIdle | stepWait | stepHighBase | stepHighVar | stepLow | stepDone | bit0 | bit1 | adjust | scale | construct
  | loadByte | advancePixel | has | endOfBit | endOfByte | endOfPixel | finish | tick | wait | mark | setHigh | setLow
  | toggle | pseudoStart | pseudoPoll | pseudoHas | pseudoShow => cases h

theorem hostMeaning_of_encode {i : Instr} {w : Nat} (h : encode i = some (.ht, w)) : HostMeaning i :=
  hostMeaning_of_isHost (by rw [isHost, h])

/-- The bit `we` of a row's word (R80). -/
theorem testBit_we (we : Bool) (off : Offset) (d : Word) : (htWord we off d).toNat.testBit 38 = we :=
  (BitVec.testBit_toNat _).trans (htWe_htWord we off d)

theorem we_of_encodeRead {i : Instr} {off : Offset} {w : Nat} (henc : encode i = encodeRead off)
    (h : encode i = some (.ht, w)) : w.testBit 38 = false := by
  cases h.symm.trans henc
  exact testBit_we false off 0

theorem we_of_encodeWrite {i : Instr} {off : Offset} {d : Word} {w : Nat} (henc : encode i = encodeWrite off d)
    (h : encode i = some (.ht, w)) : w.testBit 38 = true := by
  cases h.symm.trans henc
  exact testBit_we true off d

/-- The encoder, the traversal, the governor, the line and the records of `t` are those of `u`. -/
structure SameMachinery (u t : State) : Prop where
  line_eq : t.line = u.line
  gov_eq : t.gov = u.gov
  reads_eq : t.reads = u.reads
  trace_eq : t.trace = u.trace
  enc_eq : t.enc = u.enc
  trav_eq : t.trav = u.trav

namespace SameMachinery

theorem refl (s : State) : SameMachinery s s := ⟨rfl, rfl, rfl, rfl, rfl, rfl⟩

theorem setRdata {s t : State} (h : SameMachinery s t) (w : Option Word) : SameMachinery s (t.setRdata w) :=
  ⟨h.line_eq, h.gov_eq, h.reads_eq, h.trace_eq, h.enc_eq, h.trav_eq⟩

theorem writeRegs {s t : State} (h : SameMachinery s t) (f : Regs → Regs) : SameMachinery s (writeRegs f t) :=
  ⟨h.line_eq, h.gov_eq, h.reads_eq, h.trace_eq, h.enc_eq, h.trav_eq⟩

theorem leaves {s t : State} {P : Prop} (h : SameMachinery s t) :
    t.line = s.line ∧ t.gov = s.gov ∧ t.reads = s.reads ∧ t.trace = s.trace ∧
      (P → t.enc = s.enc ∧ t.trav = s.trav) :=
  ⟨h.line_eq, h.gov_eq, h.reads_eq, h.trace_eq, fun _ => ⟨h.enc_eq, h.trav_eq⟩⟩

end SameMachinery

theorem writeRegsCycle_sameMachinery (f : Regs → Regs) (s : State) :
    SameMachinery (cycle s) (writeCycle (writeRegs f) s) := by
  cases hbusy : s.busy with
  | true => rw [writeCycle_busy _ hbusy]; exact .refl _
  | false => rw [writeCycle_resting _ hbusy]; exact .writeRegs (.refl _) f

/-! ### The words of the port (R80, R83, R84) -/

theorem readAt (off : Offset) : ReadAt off (decodeRead off) := fun d => decodeTransaction_readWord off d

theorem writeAt (off : Offset) (d : Word) : WriteAt off d (decodeWrite off d) := decodeTransaction_writeWord off d

/-- `STATUS` by its bits (R84). -/
theorem statusWord_bits (s : State) :
    s.statusWord.getLsbD 0 = s.busy ∧ s.statusWord.getLsbD 1 = s.done ∧ s.statusWord.getLsbD 2 = s.line ∧
      s.statusWord.getLsbD 3 = s.gapOk ∧ s.statusWord.getLsbD 4 = s.gov.marked := by
  simp only [State.statusWord, bit, BitVec.getLsbD_append, BitVec.getLsbD_ofBool]
  simp

/-- The fields of STATUS (R84, R86). -/
theorem statusWord_fields (s : State) :
    s.statusWord.extractLsb' 5 3 = 0 ∧ s.statusWord.extractLsb' 8 3 = s.enc.st.code ∧
      s.statusWord.extractLsb' 11 21 = 0 := by
  simp (disch := decide) only [State.statusWord, BitVec.extractLsb'_append_eq_of_le,
    BitVec.extractLsb'_append_eq_of_add_le]
  simp

/-- `CFG` by its bits and fields (R83, R106). -/
theorem cfgWord_fields (r : Regs) :
    (cfgWord r).getLsbD 0 = r.ditherEn ∧ (cfgWord r).getLsbD 1 = r.zlp ∧ (cfgWord r).extractLsb' 2 2 = 0 ∧
      (cfgWord r).extractLsb' 4 3 = r.order.code ∧ (cfgWord r).extractLsb' 7 25 = 0 := by
  have hbits : (cfgWord r).getLsbD 0 = r.ditherEn ∧ (cfgWord r).getLsbD 1 = r.zlp := by
    simp only [cfgWord, bit, BitVec.getLsbD_append, BitVec.getLsbD_ofBool]
    simp
  refine ⟨hbits.1, hbits.2, ?_⟩
  simp (disch := decide) only [cfgWord, BitVec.extractLsb'_append_eq_of_le, BitVec.extractLsb'_append_eq_of_add_le]
  simp

/-! ### Writes of the configuration (R101, R105) -/

/-- A write takes effect after the cycle exactly when the block rests (R101). -/
theorem writeCycle_eq_ite (f : State → State) (s : State) :
    writeCycle f s = if Resting s then f (cycle s) else cycle s := by
  by_cases hrest : Resting s
  · rw [if_pos hrest, writeCycle_resting f (resting_iff.mp hrest)]
  · rw [if_neg hrest, writeCycle_busy f (busy_of_not_resting hrest)]

theorem writesRegs_of_writeCycle {i : Instr} {f : Regs → Regs} {s : State}
    (h : exec i s = .next (writeCycle (writeRegs f) s)) : WritesRegs i s f :=
  ⟨cycle s, rfl, h.trans (congrArg _ (writeCycle_eq_ite _ s))⟩

theorem writesRegs_congr {i : Instr} {f g : Regs → Regs} {s : State} (h : WritesRegs i s f) (hfg : f s.regs = g s.regs) :
    WritesRegs i s g := by
  obtain ⟨u, hu, hi⟩ := h
  cases hu
  obtain ⟨-, -, -, hregs, -⟩ := cycle_env s
  refine ⟨cycle s, rfl, hi.trans ?_⟩
  rw [hregs, hfg]

/-- The legal codes select an order, and 6 and 7 none (R83, R87). -/
theorem ofCode?_legal : ∀ code : BitVec 3, code ≤ 5#3 →
    ∃ o ∈ wireOrders, WireOrder.ofCode? code = some o ∧ o.code = code := by
  decide

theorem ofCode?_reserved : ∀ code : BitVec 3, 5#3 < code → WireOrder.ofCode? code = none := by
  decide

/-! ### START (R102, R161) -/

theorem clamped_eq_clampBias (e : Byte) : clamped e = clampBias e := by
  unfold clamped clampBias
  split
  next h => rw [h]; rfl
  next hne =>
    have hle : e.toNat ≤ 254 := by bv_omega
    rw [Nat.min_eq_left hle, BitVec.ofNat_toNat, BitVec.setWidth_eq]

theorem construct_trav (s : State) : (construct s).trav = constructed s.regs := by
  simp only [constructed, clamped_eq_clampBias]
  rfl

theorem startFrame_eq (s : State) : startFrame s = { s with trav := constructed s.regs, enc := started s.regs } := by
  rw [← construct_trav]
  rfl

/-! ### How long a busy block stays busy (R130, R193, R264) -/

/-- The cycles that WAIT lasts from a cycle with governor `g` on, that cycle included (R183, R212). -/
def gapCyclesLeft (p : Params) (g : Governor) : Nat :=
  if g.marked then p.WAIT_TIME - g.elapsed.toNat + 1 else 1

/-- The cycles of the bit period that follow the encoder's present phase; a 0 bit has no variable high part, and its low
part is longer by as much (R184 to R186). -/
def cyclesAfterPhase (p : Params) : EncState → Nat
  | .idle | .wait | .done | .low => 0
  | .highBase => p.T2 + p.T3
  | .highVar => p.T3

/-- The cycles left of a bit period, the present one included (R191). -/
def bitCyclesLeft (p : Params) (e : Encoder) : Nat :=
  phaseLength p e - e.ph.toNat + cyclesAfterPhase p e.st

/-- The bits that follow the present one in its frame (R192, R195). -/
def bitsAfter (e : Encoder) (remain : Word) : Nat :=
  7 - e.bitn.toNat + 8 * (2 - e.slot.val) + 24 * (remain.toNat - 1)

/-- The cycles left until the block rests, the present one included; none while it rests (R193). -/
def busyCyclesLeft (s : State) : Nat :=
  match s.enc.st with
  | .idle | .done => 0
  | .wait => gapCyclesLeft s.params s.gov + 24 * s.trav.remain.toNat * s.params.TB
  | .highBase | .highVar | .low => bitCyclesLeft s.params s.enc + bitsAfter s.enc s.trav.remain * s.params.TB

theorem gapOk_iff_gapCyclesLeft (s : State) : s.gapOk = true ↔ gapCyclesLeft s.params s.gov = 1 := by
  unfold State.gapOk gapCyclesLeft
  cases s.gov.marked with
  | false => simp
  | true =>
    rw [Bool.not_true, Bool.false_or, decide_eq_true_iff, if_pos rfl]
    omega

/-- While the gap has not elapsed each tick takes one cycle off it (R210). -/
theorem gapCyclesLeft_tick {s : State} (h : s.gapOk = false) :
    gapCyclesLeft s.params s.gov = gapCyclesLeft s.params (tickGovernor s.params s.gov) + 1 := by
  simp only [State.gapOk, Bool.or_eq_false_iff, Bool.not_eq_false', decide_eq_false_iff_not, not_le] at h
  obtain ⟨hmarked, hlt⟩ := h
  have helapsed := tickGovernor_elapsed s.params hlt.le
  simp only [gapCyclesLeft, tickGovernor_marked, hmarked, if_true]
  omega

theorem busyCyclesLeft_of_resting {s : State} (h : s.busy = false) : busyCyclesLeft s = 0 := by
  unfold State.busy at h
  unfold busyCyclesLeft
  cases hst : s.enc.st with
  | idle | done => rfl
  | wait | highBase | highVar | low => rw [hst] at h; cases h

/-- A busy block that sends no bit waits for the gap (R53). -/
theorem wait_of_busy {s : State} (hbusy : s.busy = true) (hs : s.enc.st.sending = false) : s.enc.st = .wait := by
  unfold State.busy at hbusy
  cases hst : s.enc.st with
  | wait => rfl
  | idle | done => rw [hst] at hbusy; cases hbusy
  | highBase | highVar | low => rw [hst] at hs; cases hs

theorem busyCyclesLeft_of_wait {s : State} (h : s.enc.st = .wait) :
    busyCyclesLeft s = gapCyclesLeft s.params s.gov + 24 * s.trav.remain.toNat * s.params.TB := by
  rw [busyCyclesLeft, h]

theorem busyCyclesLeft_of_sending {s : State} (h : s.enc.st.sending = true) :
    busyCyclesLeft s = bitCyclesLeft s.params s.enc + bitsAfter s.enc s.trav.remain * s.params.TB := by
  unfold busyCyclesLeft
  cases hst : s.enc.st with
  | idle | wait | done => rw [hst] at h; cases h
  | highBase | highVar | low => rfl

/-- At the first cycle of a bit whole bit periods are left. -/
theorem busyCyclesLeft_of_bitBegins {s : State} (hst : s.enc.st = .highBase) (hph : s.enc.ph = 0) :
    busyCyclesLeft s = (bitsAfter s.enc s.trav.remain + 1) * s.params.TB := by
  have hbit : bitCyclesLeft s.params s.enc = s.params.TB := by
    simp [bitCyclesLeft, phaseLength, cyclesAfterPhase, Params.TB, hst, hph, Nat.add_assoc]
  rw [busyCyclesLeft_of_sending (by rw [hst]; rfl), hbit]
  ring

/-- In the last cycle of a phase the rest of the bit period is what follows the phase. -/
theorem bitCyclesLeft_last {s : State} (hp : PhaseOk s.params s.enc) (hs : s.enc.st.sending = true)
    (hlast : LastPhaseCycle s) : bitCyclesLeft s.params s.enc = cyclesAfterPhase s.params s.enc.st + 1 := by
  have hinside := hp.inside hs
  unfold bitCyclesLeft
  omega

/-- In the last cycle of a bit period the bits that follow are left. -/
theorem busyCyclesLeft_of_bitEnds {s : State} (hp : PhaseOk s.params s.enc) (hst : s.enc.st = .low)
    (hlast : LastPhaseCycle s) : busyCyclesLeft s = bitsAfter s.enc s.trav.remain * s.params.TB + 1 := by
  have hs : s.enc.st.sending = true := by rw [hst]; rfl
  rw [busyCyclesLeft_of_sending hs, bitCyclesLeft_last hp hs hlast, hst, cyclesAfterPhase]
  ring

/-- The bit that follows a bit. -/
theorem busyCyclesLeft_nextBit {s t : State} (hp : PhaseOk s.params s.enc) (hst : s.enc.st = .low)
    (hlast : LastPhaseCycle s) (hparams : t.params = s.params) (htst : t.enc.st = .highBase) (htph : t.enc.ph = 0)
    (hbits : bitsAfter s.enc s.trav.remain = bitsAfter t.enc t.trav.remain + 1) :
    busyCyclesLeft s = busyCyclesLeft t + 1 := by
  rw [busyCyclesLeft_of_bitEnds hp hst hlast, busyCyclesLeft_of_bitBegins htst htph, hparams, hbits]

/-- The phase that follows a phase within a bit period. -/
theorem busyCyclesLeft_nextPhase {s t : State} (hp : PhaseOk s.params s.enc) (hs : s.enc.st.sending = true)
    (hlast : LastPhaseCycle s) (hparams : t.params = s.params) (hts : t.enc.st.sending = true)
    (hbits : bitsAfter t.enc t.trav.remain = bitsAfter s.enc s.trav.remain)
    (hbit : bitCyclesLeft s.params t.enc = cyclesAfterPhase s.params s.enc.st) :
    busyCyclesLeft s = busyCyclesLeft t + 1 := by
  rw [busyCyclesLeft_of_sending hs, busyCyclesLeft_of_sending hts, bitCyclesLeft_last hp hs hlast, hparams, hbits, hbit]
  ring

theorem EncoderMove.busyCyclesLeft {gap : Bool} {s t : State} (h : EncoderMove gap s t) (hparams : t.params = s.params)
    (hs : s.enc.st.sending = true) (hp : PhaseOk s.params s.enc) (hrem : 1 ≤ s.trav.remain.toNat) :
    busyCyclesLeft s = busyCyclesLeft t + 1 := by
  cases h with
  | rest hrest => rw [busy_of_sending hs] at hrest; cases hrest
  | awaitGap hst | finishEmpty hst | firstByte hst => rw [hst] at hs; cases hs
  | samePhase _ hph =>
    have hmax := phaseLength_lt s.params s.enc
    have hsucc : (s.enc.ph + 1).toNat = s.enc.ph.toNat + 1 := by bv_omega
    have hbit : bitCyclesLeft s.params s.enc = bitCyclesLeft s.params s.nextPhase.enc + 1 := by
      change _ = phaseLength s.params s.enc - (s.enc.ph + 1).toNat + cyclesAfterPhase s.params s.enc.st + 1
      rw [hsucc, bitCyclesLeft]
      omega
    rw [busyCyclesLeft_of_sending hs, hbit, busyCyclesLeft_of_sending (s := s.nextPhase) hs]
    exact Nat.add_right_comm _ _ _
  | toHighVar hst hlast => exact busyCyclesLeft_nextPhase hp hs hlast hparams rfl rfl (by rw [hst]; rfl)
  | baseToLow hst hlast hbit =>
    refine busyCyclesLeft_nextPhase hp hs hlast hparams rfl rfl ?_
    rw [hst]
    change lowLen s.params (s.enc.sr.getLsbD 7) = s.params.T2 + s.params.T3
    unfold lowLen
    split
    next hone =>
      have hT2 : ¬ 1 ≤ s.params.T2 := fun hT2 => hbit ⟨hone, hT2⟩
      omega
    next => rfl
  | varToLow hst hlast =>
    refine busyCyclesLeft_nextPhase hp hs hlast hparams rfl rfl ?_
    rw [hst]
    change lowLen s.params s.enc.cb = s.params.T3
    rw [hp.one_bit hst]
    rfl
  | nextBit hst hlast hbit =>
    refine busyCyclesLeft_nextBit hp hst hlast hparams rfl rfl ?_
    have hsucc : (s.enc.bitn + 1).toNat = s.enc.bitn.toNat + 1 := by bv_omega
    change _ = 7 - (s.enc.bitn + 1).toNat + 8 * (2 - s.enc.slot.val) + 24 * (s.trav.remain.toNat - 1) + 1
    rw [hsucc, bitsAfter]
    omega
  | nextByte hst hlast hbit hslot =>
    refine busyCyclesLeft_nextBit hp hst hlast hparams rfl rfl ?_
    have hsucc : (s.enc.slot + 1).val = s.enc.slot.val + 1 := by omega
    change _ = 7 + 8 * (2 - (s.enc.slot + 1).val) + 24 * (s.trav.remain.toNat - 1) + 1
    rw [hsucc, bitsAfter]
    omega
  | nextPixel hst hlast hbit hslot hmore =>
    refine busyCyclesLeft_nextBit hp hst hlast hparams rfl rfl ?_
    have hsub : (s.trav.remain - 1).toNat = s.trav.remain.toNat - 1 := by bv_omega
    have hmore' := one_le_toNat hmore
    change _ = 7 + 8 * 2 + 24 * ((s.trav.remain - 1).toNat - 1) + 1
    rw [hsub, bitsAfter]
    omega
  | lastPixel hst hlast hbit hslot hlastPixel =>
    have hone : s.trav.remain.toNat = 1 := by bv_omega
    have hbits : bitsAfter s.enc s.trav.remain = 0 := by
      unfold bitsAfter
      omega
    rw [busyCyclesLeft_of_bitEnds hp hst hlast, hbits, Nat.zero_mul]
    rfl

/-! ### The cycles in WAIT (R183) -/

theorem blockStep_wait {s : State} (hst : s.enc.st = .wait) : blockStep s = stepWait s.gapOk (tick s) := by
  have htick : (tick s).enc.st = .wait := hst
  rw [blockStep, encoderStep, htick]

theorem blockStep_wait_gap {s : State} (hst : s.enc.st = .wait) (hgap : s.gapOk = false) : blockStep s = tick s := by
  rw [blockStep_wait hst, hgap]
  rfl

theorem blockStep_wait_empty {s : State} (hst : s.enc.st = .wait) (hgap : s.gapOk = true) (hrem : s.trav.remain = 0) :
    blockStep s = finish (tick s) := by
  rw [blockStep_wait hst, hgap]
  exact if_pos hrem

theorem blockStep_wait_pixel {s : State} (hst : s.enc.st = .wait) (hgap : s.gapOk = true) (hrem : s.trav.remain ≠ 0) :
    blockStep s = beginBit (restartPhase (loadByte 0 (tick s))) := by
  rw [blockStep_wait hst, hgap]
  exact if_neg hrem

/-- In WAIT the gap is waited for, its last cycle included; then the frame begins with the first of its bits, or is done
(R183). -/
theorem busyCyclesLeft_blockStep_wait {s : State} (hst : s.enc.st = .wait) (hp : PhaseOk s.params s.enc) :
    busyCyclesLeft s = busyCyclesLeft (blockStep s) + 1 := by
  obtain ⟨hbitn, hslot, -⟩ := hp.empty (by rw [hst]; rfl)
  rw [busyCyclesLeft_of_wait hst]
  cases hgap : s.gapOk with
  | false =>
    rw [blockStep_wait_gap hst hgap, busyCyclesLeft_of_wait (s := tick s) hst, gapCyclesLeft_tick hgap]
    exact Nat.add_right_comm _ _ _
  | true =>
    rw [(gapOk_iff_gapCyclesLeft s).mp hgap]
    by_cases hrem : s.trav.remain = 0
    · rw [blockStep_wait_empty hst hgap hrem, hrem, busyCyclesLeft_of_resting rfl]
      simp
    · have hpos := one_le_toNat hrem
      have hbits : bitsAfter (blockStep s).enc (blockStep s).trav.remain + 1 = 24 * s.trav.remain.toNat := by
        rw [blockStep_wait_pixel hst hgap hrem]
        change 7 - s.enc.bitn.toNat + 8 * (2 - s.enc.slot.val) + 24 * (s.trav.remain.toNat - 1) + 1 = _
        rw [hbitn, hslot]
        change 7 - 0 + 8 * (2 - 0) + 24 * (s.trav.remain.toNat - 1) + 1 = _
        omega
      have hbegin : (blockStep s).enc.st = .highBase ∧ (blockStep s).enc.ph = 0 := by
        rw [blockStep_wait_pixel hst hgap hrem]
        exact ⟨rfl, rfl⟩
      rw [busyCyclesLeft_of_bitBegins hbegin.1 hbegin.2, hbits, (blockStep_env s).1, Nat.add_comm]

/-- Each cycle of a busy block takes one off the cycles left. -/
theorem busyCyclesLeft_cycle {s : State} (hs : Inv s) (hq : InSequence s) (hbusy : s.busy = true) :
    busyCyclesLeft s = busyCyclesLeft (cycle s) + 1 := by
  obtain ⟨-, -, -, hc⟩ := (inv_iff s).mp hs
  obtain ⟨hphase, -⟩ := (inSequence_iff s).mp hq
  change busyCyclesLeft s = busyCyclesLeft (blockStep s) + 1
  cases hst : s.enc.st.sending with
  | true =>
    have hmove : EncoderMove s.gapOk (tick s) (blockStep s) := encoderStep_move _ _
    have htick : busyCyclesLeft (tick s) = busyCyclesLeft s := by
      rw [busyCyclesLeft_of_sending hst, busyCyclesLeft_of_sending (s := tick s) hst]
      rfl
    rw [← htick]
    exact hmove.busyCyclesLeft (blockStep_env s).1 hst hphase (hc.remain_pos hst)
  | false => exact busyCyclesLeft_blockStep_wait (wait_of_busy hbusy hst) hphase

theorem gapCyclesLeft_le (p : Params) (g : Governor) : gapCyclesLeft p g ≤ p.WAIT_TIME + 1 := by
  unfold gapCyclesLeft
  split <;> omega

theorem bitCyclesLeft_le (p : Params) (e : Encoder) : bitCyclesLeft p e ≤ p.TB := by
  unfold bitCyclesLeft phaseLength cyclesAfterPhase lowLen Params.TB
  cases e.st with
  | idle | wait | done | highBase | highVar => dsimp only; omega
  | low => dsimp only; split <;> omega

theorem bitsAfter_lt (e : Encoder) {remain : Word} (h : 1 ≤ remain.toNat) :
    bitsAfter e remain + 1 ≤ 24 * remain.toNat := by
  unfold bitsAfter
  omega

/-- The bound of R264: the gap, and the bit periods of a frame. -/
theorem busyCyclesLeft_le {s : State} (hs : Inv s) (hq : InSequence s) :
    busyCyclesLeft s ≤ s.params.WAIT_TIME + 1 + 24 * s.regs.count.toNat * s.params.TB := by
  obtain ⟨-, -, -, hc⟩ := (inv_iff s).mp hs
  obtain ⟨-, hpos⟩ := (inSequence_iff s).mp hq
  have frame (hbusy : s.busy = true) :
      24 * s.trav.remain.toNat * s.params.TB ≤ 24 * s.regs.count.toNat * s.params.TB :=
    Nat.mul_le_mul_right _ (Nat.mul_le_mul_left _ (hpos.current hbusy).1)
  cases hst : s.enc.st.sending with
  | true =>
    calc busyCyclesLeft s
        = bitCyclesLeft s.params s.enc + bitsAfter s.enc s.trav.remain * s.params.TB := busyCyclesLeft_of_sending hst
      _ ≤ (bitsAfter s.enc s.trav.remain + 1) * s.params.TB := by
          have hbit := bitCyclesLeft_le s.params s.enc
          rw [Nat.succ_mul]
          omega
      _ ≤ 24 * s.trav.remain.toNat * s.params.TB := Nat.mul_le_mul_right _ (bitsAfter_lt _ (hc.remain_pos hst))
      _ ≤ 24 * s.regs.count.toNat * s.params.TB := frame (busy_of_sending hst)
      _ ≤ _ := Nat.le_add_left _ _
  | false =>
    cases hbusy : s.busy with
    | false => rw [busyCyclesLeft_of_resting hbusy]; exact Nat.zero_le _
    | true =>
      rw [busyCyclesLeft_of_wait (wait_of_busy hbusy hst)]
      exact Nat.add_le_add (gapCyclesLeft_le _ _) (frame hbusy)

/-! ### The line `poll` (R92, R130) -/

/-- `poll` reads STATUS, and comes again while the block is busy. -/
theorem exec_pseudoPoll (s : State) :
    exec .pseudoPoll s =
      .next (if s.busy then (readCycle s.statusWord s).pushHost [pollCycle] else readCycle s.statusWord s) := by
  rw [← (statusWord_bits s).1]
  rfl

theorem step_poll {s : State} {rest : List HostCycle} (h : s.host = pollCycle :: rest) :
    step s = exec .pseudoPoll (s.setHost rest) := by
  have hfetched : fetched s = s.setHost rest := by
    rw [fetched, h]
    rfl
  rw [← hfetched, step, h]
  rfl

/-- A poll of a busy block is a cycle after which the same line comes again. -/
theorem step_poll_busy {s : State} {rest : List HostCycle} (h : s.host = pollCycle :: rest) (hbusy : s.busy = true) :
    ∃ t, step s = .next t ∧ t.host = pollCycle :: rest ∧
      busyCyclesLeft t = busyCyclesLeft (cycle (s.setHost rest)) := by
  obtain ⟨-, -, hhost, -⟩ := cycle_env (s.setHost rest)
  have hbusy' : (s.setHost rest).busy = true := hbusy
  rw [step_poll h, exec_pseudoPoll, if_pos hbusy']
  exact ⟨_, rfl, congrArg (pollCycle :: ·) hhost, rfl⟩

/-- A poll of a resting block reads bit 0 of STATUS clear, and the host goes on. -/
theorem step_poll_resting {s : State} {rest : List HostCycle} (h : s.host = pollCycle :: rest)
    (hrest : s.busy = false) :
    ∃ t v, step s = .next t ∧ t.rdata = some v ∧ v.getLsbD 0 = false ∧ t.host = rest ∧ t.busy = false := by
  obtain ⟨-, -, hhost, -⟩ := cycle_env (s.setHost rest)
  obtain ⟨hbit, -⟩ := statusWord_bits (s.setHost rest)
  have hrest' : (s.setHost rest).busy = false := hrest
  rw [step_poll h, exec_pseudoPoll, if_neg (Bool.eq_false_iff.mp hrest')]
  exact ⟨_, _, rfl, rfl, hbit.trans hrest', hhost, cycle_busy_of_resting hrest'⟩

/-- Polling reads bit 0 clear one cycle after the block's last busy cycle. -/
theorem poll_run {n : Nat} {s : State} {rest : List HostCycle} (hs : Inv s) (hq : InSequence s)
    (h : s.host = pollCycle :: rest) (hn : busyCyclesLeft s = n) :
    ∃ t v, steps (n + 1) s = .next t ∧ t.rdata = some v ∧ v.getLsbD 0 = false ∧ t.host = rest ∧ t.busy = false := by
  induction n generalizing s with
  | zero =>
    have hrest : s.busy = false := by
      rw [← Bool.not_eq_true]
      intro hbusy
      have hleft := busyCyclesLeft_cycle hs hq hbusy
      omega
    obtain ⟨t, v, hstep, hread⟩ := step_poll_resting h hrest
    exact ⟨t, v, steps_one hstep, hread⟩
  | succ n ih =>
    have hbusy : s.busy = true := by
      rw [← Bool.not_eq_false]
      intro hrest
      rw [busyCyclesLeft_of_resting hrest] at hn
      cases hn
    obtain ⟨t, hstep, hhost, hleft⟩ := step_poll_busy h hbusy
    have hnext := busyCyclesLeft_cycle (s := s.setHost rest) hs hq hbusy
    have hsame : busyCyclesLeft (s.setHost rest) = busyCyclesLeft s := rfl
    rw [steps_succ hstep]
    exact ih (Claims.stepKeepsTheInvariants s t hs hstep) (Claims.stepKeepsTheSequence s t hs hq hstep) hhost (by omega)

/-! ### A run of WAIT (R183, R212) -/

namespace SameBlock

variable {s t : State}

theorem trav_eq (h : SameBlock s t) : t.trav = s.trav := (congrArg State.trav h.hide_eq :)
theorem gov_eq (h : SameBlock s t) : t.gov = s.gov := (congrArg State.gov h.hide_eq :)
theorem reads_eq (h : SameBlock s t) : t.reads = s.reads := (congrArg State.reads h.hide_eq :)

end SameBlock

/-- From `s` to `t` in `n` cycles in which the block only ticks, with the line held (R183). -/
structure Ticks (n : Nat) (s t : State) : Prop where
  run : steps n s = .next t
  params_eq : t.params = s.params
  enc_eq : t.enc = s.enc
  trav_eq : t.trav = s.trav
  line_eq : t.line = s.line
  gov_eq : t.gov = tickTimes s.params n s.gov
  reads_eq : t.reads = s.reads
  trace_eq : t.trace = List.replicate n s.line ++ s.trace
  noReset : NoReset t

/-- While the gap has not elapsed a cycle in WAIT only ticks. -/
theorem ticks_wait {s : State} (hst : s.enc.st = .wait) (hgap : s.gapOk = false) (hreset : NoReset s) :
    ∃ t, Ticks 1 s t := by
  have hbusy : s.busy = true := by rw [State.busy, hst]; rfl
  obtain ⟨t, hstep, hsame⟩ := step_of_busy hbusy hreset
  have hreset' := fetched_noReset hreset
  obtain ⟨m, l, hfetched, -⟩ := fetched_eq s
  rw [hfetched] at hsame hreset'
  have hblock : blockStep ((s.setMem m).setHost l) = tick ((s.setMem m).setHost l) := blockStep_wait_gap hst hgap
  rw [cycle, hblock] at hsame
  exact ⟨t, steps_one hstep, hsame.params_eq, hsame.enc_eq, hsame.trav_eq, hsame.line_eq, hsame.gov_eq, hsame.reads_eq,
    hsame.trace_eq, hsame.noReset hreset'⟩

theorem Ticks.refl {s : State} (hreset : NoReset s) : Ticks 0 s s := ⟨rfl, rfl, rfl, rfl, rfl, rfl, rfl, rfl, hreset⟩

theorem Ticks.cons {n : Nat} {s t u : State} (h : Ticks 1 s t) (k : Ticks n t u) : Ticks (n + 1) s u where
  run := by rw [Nat.add_comm]; exact steps_add h.run k.run
  params_eq := k.params_eq.trans h.params_eq
  enc_eq := k.enc_eq.trans h.enc_eq
  trav_eq := k.trav_eq.trans h.trav_eq
  line_eq := k.line_eq.trans h.line_eq
  gov_eq := by rw [k.gov_eq, h.gov_eq, h.params_eq]; rfl
  reads_eq := k.reads_eq.trans h.reads_eq
  trace_eq := by rw [k.trace_eq, h.trace_eq, h.line_eq, List.replicate_add, List.append_assoc]
  noReset := k.noReset

/-- The block stays in WAIT for all cycles of the gap but the last one (R183, R212). -/
theorem ticks_gap {n : Nat} {s : State} (hst : s.enc.st = .wait) (hn : n < gapCyclesLeft s.params s.gov)
    (hreset : NoReset s) :
    ∃ t, Ticks n s t ∧ gapCyclesLeft t.params t.gov + n = gapCyclesLeft s.params s.gov := by
  induction n generalizing s with
  | zero => exact ⟨s, .refl hreset, rfl⟩
  | succ n ih =>
    have hgap : s.gapOk = false := by
      rw [← Bool.not_eq_true, gapOk_iff_gapCyclesLeft]
      omega
    obtain ⟨t, ht⟩ := ticks_wait hst hgap hreset
    have hleft : gapCyclesLeft s.params s.gov = gapCyclesLeft t.params t.gov + 1 := by
      rw [ht.params_eq, ht.gov_eq]
      exact gapCyclesLeft_tick hgap
    obtain ⟨u, hu, huleft⟩ := ih (s := t) (by rw [ht.enc_eq]; exact hst) (by omega) ht.noReset
    exact ⟨u, ht.cons hu, by omega⟩

/-! ### Frames without a pixel (R102, R183, R190) -/

/-- What a frame without a pixel leaves at its end, with the line low all along: nothing is read, and the gap starts to
count. -/
structure EmptyFrameEnds (s t : State) : Prop where
  done : t.enc.st = .done
  gov_eq : t.gov = { marked := true, elapsed := 0 }
  line_eq : t.line = false
  trav_eq : t.trav = s.trav
  reads_eq : t.reads = s.reads

/-- In the last cycle of the gap a frame without a pixel is done. -/
theorem step_wait_empty {s : State} (hst : s.enc.st = .wait) (hgap : s.gapOk = true) (hrem : s.trav.remain = 0)
    (hreset : NoReset s) : ∃ t, step s = .next t ∧ EmptyFrameEnds s t ∧ t.trace = s.line :: s.trace := by
  have hbusy : s.busy = true := by rw [State.busy, hst]; rfl
  obtain ⟨t, hstep, hsame⟩ := step_of_busy hbusy hreset
  obtain ⟨m, l, hfetched, -⟩ := fetched_eq s
  rw [hfetched] at hsame
  have hblock : blockStep ((s.setMem m).setHost l) = finish (tick ((s.setMem m).setHost l)) :=
    blockStep_wait_empty hst hgap hrem
  rw [cycle, hblock] at hsame
  refine ⟨t, hstep, ⟨?_, hsame.gov_eq, hsame.line_eq, hsame.trav_eq, hsame.reads_eq⟩, hsame.trace_eq⟩
  rw [hsame.enc_eq]
  rfl

/-- WAIT with no pixel to send: the block waits for the gap and is then done. -/
theorem wait_empty_run {s : State} (hst : s.enc.st = .wait) (hline : s.line = false) (hrem : s.trav.remain = 0)
    (hreset : NoReset s) :
    ∃ t, steps (gapCyclesLeft s.params s.gov) s = .next t ∧ EmptyFrameEnds s t ∧
      t.trace = List.replicate (gapCyclesLeft s.params s.gov) false ++ s.trace := by
  obtain ⟨n, hn⟩ : ∃ n, gapCyclesLeft s.params s.gov = n + 1 := by
    unfold gapCyclesLeft
    split
    · exact ⟨_, rfl⟩
    · exact ⟨0, rfl⟩
  obtain ⟨t, ht, hleft⟩ := ticks_gap (n := n) hst (by omega) hreset
  have hgap : t.gapOk = true := (gapOk_iff_gapCyclesLeft t).mpr (by omega)
  obtain ⟨u, hstep, hends, htrace⟩ :=
    step_wait_empty (by rw [ht.enc_eq]; exact hst) hgap (by rw [ht.trav_eq]; exact hrem) ht.noReset
  rw [hn]
  refine ⟨u, steps_add ht.run (steps_one hstep), ?_, ?_⟩
  · exact ⟨hends.done, hends.gov_eq, hends.line_eq, hends.trav_eq.trans ht.trav_eq, hends.reads_eq.trans ht.reads_eq⟩
  · rw [htrace, ht.trace_eq, ht.line_eq, hline, List.replicate_succ, List.cons_append]

/-! ### The cycle of a START (R102) -/

/-- The state after an accepted START, with the lines `rest` still to come (R102). -/
def startedState (s : State) (rest : List HostCycle) : State :=
  { s with
    host := rest
    trav := constructed s.regs
    enc := started s.regs
    gov := tickGovernor s.params s.gov
    rdata := none
    trace := s.line :: s.trace }

/-- An accepted START, with no stores in its cycle, takes effect on top of the tick of a resting block. -/
theorem step_start {s : State} {w : Word} {ht : Transaction} {rest : List HostCycle} (hrest : Resting s)
    (hdecode : decodeTransaction ht = .wrCmdStart w) (hhost : s.host = ⟨[], .word ht⟩ :: rest) :
    step s = .next (startedState s rest) := by
  have hidle : (s.setHost rest).busy = false := resting_iff.mp hrest
  have hstep : step s = exec (.wrCmdStart w) (s.setHost rest) := by
    rw [← hdecode, step, hhost]
    simp only [HostInput.instr?, fetched, hhost]
    rfl
  rw [hstep]
  change Host.Outcome.next (writeCycle startFrame (s.setHost rest)) = _
  rw [writeCycle_resting _ hidle, startFrame_eq, cycle, blockStep_resting hidle]
  rfl

/-- The cycle of the START counts for the gap too (R216). -/
theorem gapCyclesLeft_started {s : State} (h : s.gov.elapsed.toNat ≤ s.params.WAIT_TIME) :
    gapCyclesLeft s.params (tickGovernor s.params s.gov) = waitCycles s := by
  have helapsed := tickGovernor_elapsed s.params h
  unfold gapCyclesLeft waitCycles
  rw [tickGovernor_marked]
  split
  · omega
  · rfl

end Sys2Proof.Machine

/-! ### The obligations of 40_host_operations.md -/

namespace Sys2Proof.Claims

open Sys2Proof.Machine

/-- Settles O58, by induction on the cycles: while the block is busy each of them is the block's own, which does not
look at the host. -/
theorem hostCannotDisturbARunningFrame : Obligations.HostCannotDisturbARunningFrame := by
  intro n
  induction n with
  | zero => exact fun s s' h _ _ _ => ⟨s, s', rfl, rfl, h⟩
  | succ n ih =>
    intro s s' h hs hs' hbusy
    have hb : s.busy = true := busy_of_not_resting (hbusy 0 (Nat.succ_pos n) s rfl)
    have hb' : s'.busy = true := (congrArg State.busy h :).symm.trans hb
    obtain ⟨t, ht, htcycle, htcontract⟩ := step_of_busy_contract hb hs
    obtain ⟨t', ht', htcycle', htcontract'⟩ := step_of_busy_contract hb' hs'
    have hnext : hideHost t = hideHost t' := htcycle.trans ((hideHost_cycle_congr h).trans htcycle'.symm)
    rw [steps_succ ht, steps_succ ht']
    refine ih t t' hnext htcontract htcontract' fun k hk u hu => ?_
    exact hbusy (k + 1) (Nat.succ_lt_succ hk) u ((steps_succ ht).trans hu)

/-- Settles O59, by induction on the cycles that the block stays busy, of which each poll takes one. -/
theorem pollTerminates : Obligations.PollTerminates := by
  intro s rest hs hq hhost
  have hle := busyCyclesLeft_le hs hq
  obtain ⟨t, v, hrun, hread, hbit, hrest, hidle⟩ := poll_run hs hq hhost rfl
  exact ⟨_, t, v, Nat.succ_pos _, by omega, hrun, hread, hbit, hrest, resting_iff.mpr hidle⟩

/-- Settles O46: a write of the configuration and a START leave the line, the governor and the records of the cycle, and
only a START that is accepted goes further. -/
theorem hostOperationsLeaveTheBlockAlone : Obligations.HostOperationsLeaveTheBlockAlone := by
  intro i s t u hhost hu ht
  cases hu
  cases hostMeaning_of_isHost hhost with
  | nop hi => cases hi; cases ht; exact (SameMachinery.refl _).leaves
  | read off w _ h => cases (h s).symm.trans ht; exact ((SameMachinery.refl _).setRdata _).leaves
  | ignored off d _ h => cases (h s).symm.trans ht; exact (SameMachinery.refl _).leaves
  | writeRegs off d f _ h => cases (h s).symm.trans ht; exact (writeRegsCycle_sameMachinery f s).leaves
  | start d hi =>
    cases hi
    cases ht
    cases hbusy : s.busy with
    | true =>
      rw [writeCycle_busy _ hbusy]
      exact (SameMachinery.refl _).leaves
    | false =>
      rw [writeCycle_resting _ hbusy]
      refine ⟨rfl, rfl, rfl, rfl, ?_⟩
      rintro (hnot | hnot)
      · exact absurd rfl (hnot d)
      · exact absurd (resting_iff.mpr hbusy) hnot

/-- Settles O54: under policy 0 the START itself is the end of the frame; under policy 1 it leaves WAIT with no pixel to
send. -/
theorem zeroLengthFrames : Obligations.ZeroLengthFrames := by
  intro s w ht rest hs hrest hcount hdecode hhost hcontract
  obtain ⟨-, hgov, -, hc⟩ := (inv_iff s).mp hs
  have hline : s.line = false := hc.line_low (resting_iff.mp hrest)
  have hstart := step_start hrest hdecode hhost
  have hremain : (constructed s.regs).remain = 0 := hcount
  have hfirst : (startedState s rest).trace = List.replicate 1 false ++ s.trace := congrArg (· :: s.trace) hline
  constructor
  · intro hzlp
    have hdone : (started s.regs).st = .done := if_pos ⟨hcount, hzlp⟩
    exact ⟨_, steps_one hstart, hdone, tickGovernor_eq_ticked s, rfl, hfirst, hline, hremain⟩
  · intro hzlp
    have hwait : (started s.regs).st = .wait := if_neg fun h => by rw [hzlp] at h; cases h.2
    have hgap : gapCyclesLeft (startedState s rest).params (startedState s rest).gov = waitCycles s :=
      gapCyclesLeft_started hgov
    have hreset : NoReset (startedState s rest) := fun c hc => (hcontract c hc).2
    constructor
    · intro k hk hkle
      obtain ⟨n, rfl⟩ : ∃ n, k = n + 1 := ⟨k - 1, by omega⟩
      obtain ⟨u, hu, -⟩ := ticks_gap (n := n) (s := startedState s rest) hwait (by omega) hreset
      exact ⟨u, (steps_succ hstart).trans hu.run, hu.enc_eq ▸ hwait⟩
    · obtain ⟨t, hrun, hends, htrace⟩ := wait_empty_run (s := startedState s rest) hwait hline hremain hreset
      rw [hgap] at hrun htrace
      refine ⟨t, steps_add (steps_one hstart) hrun, hends.done, hends.gov_eq, hends.reads_eq, ?_, hends.line_eq, ?_⟩
      · rw [htrace, hfirst, ← List.append_assoc, ← List.replicate_add, Nat.add_comm]
      · rw [hends.trav_eq]
        exact hremain

/-- Settles O12: each read answers its register's word. -/
theorem configurationReads : Obligations.ConfigurationReads := by
  intro s
  refine ⟨⟨readAt 0x00, readAt 0x04, readAt 0x0C, readAt 0x10, readAt 0x14, readAt 0x18, readAt 0x1C, readAt 0x20,
    readAt 0x24⟩, ?cmd, ⟨_, ?cfg, cfgWord_fields s.regs⟩, ?base, ?count, ?advance, ?laneOff, ?bright, ?corr, ?bias⟩
  case bright => exact answers_of_readCycle rfl (BitVec.ofNat_toNat 32 _).symm
  all_goals exact answers_of_readCycle rfl rfl

/-- Settles O13: the three read-only registers answer the traversal state. -/
theorem traversalReads : Obligations.TraversalReads :=
  fun _ => ⟨readAt 0x28, readAt 0x2C, readAt 0x30, answers_of_readCycle rfl rfl, answers_of_readCycle rfl rfl,
    answers_of_readCycle rfl rfl⟩

/-- Settles O14: the read answers the STATUS word, whose bits and fields are those of R84. -/
theorem statusReads : Obligations.StatusReads := by
  refine ⟨readAt 0x08, fun s => ⟨s.statusWord, answers_of_readCycle rfl rfl, ?_⟩⟩
  obtain ⟨hbusy, hdone, hline, hgap, hmarked⟩ := statusWord_bits s
  obtain ⟨hlow, hcode, hhigh⟩ := statusWord_fields s
  rw [hbusy, hdone, hgap]
  refine ⟨busy_iff s, done_iff s, hline, gapOk_iff s, hmarked, hlow, hcode.trans ?_, hhigh⟩
  cases s.enc.st <;> rfl

/-- Settles O15: the reads answer 0 and the writes are cycles without an operation. -/
theorem reservedAndMisalignedOffsets : Obligations.ReservedAndMisalignedOffsets := by
  intro s off w
  refine ⟨readAt 0x34, writeAt 0x34 w, fun h => ?reserved, fun h => ?odd, fun heven hmis => ?even,
    answers_of_readCycle rfl rfl, answers_of_readCycle rfl rfl, answers_of_readCycle rfl rfl,
    answers_of_readCycle rfl rfl, cycle s, rfl, rfl, rfl, rfl, rfl⟩
  case reserved =>
    have hoff := (Offset.reserved38_iff off).mpr h
    exact ⟨decodeRead_reserved38 hoff ▸ readAt off, decodeWrite_reserved38 w hoff ▸ writeAt off w⟩
  case odd => exact ⟨decodeRead_odd h ▸ readAt off, decodeWrite_odd w h ▸ writeAt off w⟩
  case even =>
    have hoff := (Offset.evenMisaligned_iff off).mpr ⟨Bool.eq_false_iff.mp heven, hmis⟩
    exact ⟨decodeRead_evenMisaligned hoff ▸ readAt off, decodeWrite_evenMisaligned w hoff ▸ writeAt off w⟩

/-- Settles O16: each is a write of one register; `BRIGHT` takes the low byte. -/
theorem configurationWrites : Obligations.ConfigurationWrites := by
  intro s w
  refine ⟨⟨writeAt 0x0C w, writeAt 0x10 w, writeAt 0x14 w, writeAt 0x18 w, writeAt 0x1C w, writeAt 0x20 w,
    writeAt 0x24 w⟩, ?base, ?count, ?advance, ?laneOff, ?bright, ?corr, ?bias⟩
  all_goals exact writesRegs_of_writeCycle rfl

/-- Settles O17, by the codes of the channel orders. -/
theorem cfgWrite : Obligations.CfgWrite := by
  intro s w
  have hwrite : WritesRegs (.wrCfg w) s fun r => writeCfg r w := writesRegs_of_writeCycle rfl
  refine ⟨writeAt 0x04 w, (writeCfg s.regs w).order, fun hlegal => ?_, fun hreserved => ?_, writesRegs_congr hwrite rfl⟩
  · obtain ⟨o, -, hsome, hcode⟩ := ofCode?_legal _ hlegal
    rw [writeCfg, hsome]
    exact hcode
  · rw [writeCfg, ofCode?_reserved _ hreserved]
    rfl

/-- Settles O18: the encoder and the traversal of an accepted START are those that `startFrame` sets, from the
configuration that the cycle keeps. -/
theorem startBeginsAFrame : Obligations.StartBeginsAFrame := by
  intro s w
  obtain ⟨-, -, -, hregs, -⟩ := cycle_env s
  refine ⟨fun hbit => ?_, cycle s, rfl, ?_⟩
  · have hdecode : decodeWrite 0x00 w = .wrCmdStart w := if_pos hbit
    exact hdecode ▸ writeAt 0x00 w
  · change Host.Outcome.next (writeCycle startFrame s) = _
    rw [writeCycle_eq_ite, startFrame_eq, hregs]

/-- Settles O19: each of the five is a cycle without an operation. -/
theorem ignoredWrites : Obligations.IgnoredWrites := by
  intro s w
  refine ⟨fun hbit => ?_, writeAt 0x08 w, writeAt 0x28 w, writeAt 0x2C w, writeAt 0x30 w, cycle s, rfl, rfl, rfl, rfl,
    rfl, rfl⟩
  have hdecode : decodeWrite 0x00 w = .wrCmdNone w := if_neg (Bool.eq_false_iff.mp hbit)
  exact hdecode ▸ writeAt 0x00 w

/-- Settles O44: a write is ignored, or is dropped while the block is busy. -/
theorem writesWhileBusyAreDropped : Obligations.WritesWhileBusyAreDropped := by
  intro i s w henc _ hwe hnot
  have hbusy := busy_of_not_resting hnot
  cases hostMeaning_of_encode henc with
  | nop hi => rw [hi]
  | read off v hread h => rw [we_of_encodeRead hread henc] at hwe; cases hwe
  | ignored off d _ h => exact h s
  | writeRegs off d f _ h => exact (h s).trans (congrArg _ (writeCycle_busy _ hbusy))
  | start d hi => rw [hi]; exact congrArg Host.Outcome.next (writeCycle_busy _ hbusy)

/-- Settles O45: of the host's rows only the reads have `valid = 1` and `we = 0`. -/
theorem readsChangeNothing : Obligations.ReadsChangeNothing := by
  intro i s w henc hvalid hwe
  cases hostMeaning_of_encode henc with
  | nop hi => cases hi; cases henc; cases hvalid
  | read off v _ h => exact ⟨v s, answers_of_readCycle (h s) rfl⟩
  | ignored off d hwrite h => rw [we_of_encodeWrite hwrite henc] at hwe; cases hwe
  | writeRegs off d f hwrite h => rw [we_of_encodeWrite hwrite henc] at hwe; cases hwe
  | start d hi =>
    cases hi
    rw [we_of_encodeWrite (off := 0x00) (d := d) rfl henc] at hwe
    cases hwe

end Sys2Proof.Claims

namespace Sys2Proof.Machine

/-! ### The integers of one adjustment (R142, R152) -/

theorem byteProduct_le (v s : Byte) : v.toNat * s.toNat ≤ 65025 :=
  Nat.mul_le_mul (Nat.le_of_lt_succ v.isLt) (Nat.le_of_lt_succ s.isLt)

theorem adjustQuot_comm (v s : Byte) : adjustQuot v s = adjustQuot s v := by
  simp only [adjustQuot, Nat.mul_comm]

theorem adjustQuot_le_left (v s : Byte) : adjustQuot v s ≤ v.toNat :=
  Nat.div_le_of_le_mul <| calc
    v.toNat * s.toNat ≤ v.toNat * 255 := Nat.mul_le_mul_left _ (Nat.le_of_lt_succ s.isLt)
    _ = 255 * v.toNat := Nat.mul_comm _ _

theorem adjustQuot_le_right (v s : Byte) : adjustQuot v s ≤ s.toNat :=
  adjustQuot_comm v s ▸ adjustQuot_le_left s v

theorem adjustQuot_rem (v s : Byte) : 255 * adjustQuot v s + adjustRem v s = v.toNat * s.toNat :=
  Nat.div_add_mod _ _

theorem adjustRem_lt (v s : Byte) : adjustRem v s < 255 := Nat.mod_lt _ (by decide)

/-- Only the product of two full bytes has the quotient 255, and it is a multiple of 255 (R147). -/
theorem adjustQuot_lt_of_rem_ne_zero {v s : Byte} (h : adjustRem v s ≠ 0) : adjustQuot v s < 255 := by
  have hp := adjustQuot_rem v s
  have hle := byteProduct_le v s
  omega

theorem adjustQuot_zero_left (s : Byte) : adjustQuot 0 s = 0 := by simp [adjustQuot]
theorem adjustQuot_zero_right (v : Byte) : adjustQuot v 0 = 0 := by simp [adjustQuot]
theorem adjustQuot_full_right (v : Byte) : adjustQuot v 255 = v.toNat := by simp [adjustQuot]
theorem adjustRem_zero_left (s : Byte) : adjustRem 0 s = 0 := by simp [adjustRem]
theorem adjustRem_zero_right (v : Byte) : adjustRem v 0 = 0 := by simp [adjustRem]
theorem adjustRem_full_right (v : Byte) : adjustRem v 255 = 0 := by simp [adjustRem]

/-- On the range of R152, which holds more than the products of two bytes, dividing by 255 takes two shifts. -/
theorem div_255_eq_shifts {p : Nat} (hp : p ≤ 65025) : p / 255 = (p + 1 + ((p + 1) >>> 8)) >>> 8 := by
  simp only [Nat.shiftRight_eq_div_pow]
  omega

/-! ### Scale (R141) -/

theorem scaleValue_toNat (b c : Byte) : (scaleValue b c).toNat = adjustQuot b c :=
  Nat.mod_eq_of_lt (Nat.lt_of_le_of_lt (adjustQuot_le_left b c) b.isLt)

theorem scaleValue_full_right (b : Byte) : scaleValue b 255 = b :=
  BitVec.eq_of_toNat_eq (by rw [scaleValue_toNat, adjustQuot_full_right])

theorem scaleValue_full_left (c : Byte) : scaleValue 255 c = c :=
  BitVec.eq_of_toNat_eq (by rw [scaleValue_toNat, adjustQuot_comm, adjustQuot_full_right])

/-! ### Adjust (R143 to R147)

At scale 0 the quotient and the fraction are 0, and the `min` never changes the value (R147), so one formula covers
every scale with the dither off, and one with it on. -/

theorem adjustByte_scale_zero (v dc : Byte) (en : Bool) : adjustByte v 0 dc en = ⟨0, dc⟩ := if_pos rfl

theorem adjustByte_off (v s dc : Byte) :
    (adjustByte v s dc false).o.toNat = adjustQuot v s ∧ (adjustByte v s dc false).dn = dc := by
  have hq : adjustQuot v s < 2 ^ 8 := Nat.lt_of_le_of_lt (adjustQuot_le_left v s) v.isLt
  by_cases hs : s = 0
  · rw [hs, adjustByte_scale_zero, adjustQuot_zero_right]
    exact ⟨rfl, rfl⟩
  · rw [adjustByte, if_neg hs, if_pos rfl]
    exact ⟨Nat.mod_eq_of_lt hq, rfl⟩

/-- The dithered byte is the quotient plus the carry of the accumulator and the lost fraction, whose remainder is the
next accumulator. -/
theorem adjustByte_on (v s : Byte) {dc : Byte} (hdc : dc.toNat ≤ 254) :
    (adjustByte v s dc true).o.toNat = adjustQuot v s + (dc.toNat + adjustRem v s) / 255 ∧
    (adjustByte v s dc true).dn.toNat = (dc.toNat + adjustRem v s) % 255 := by
  have hr := adjustRem_lt v s
  by_cases hs : s = 0
  · rw [hs, adjustByte_scale_zero, adjustQuot_zero_right, adjustRem_zero_right]
    change 0 = 0 + (dc.toNat + 0) / 255 ∧ dc.toNat = (dc.toNat + 0) % 255
    omega
  · by_cases hcarry : 255 ≤ dc.toNat + adjustRem v s
    · have hmin : adjustQuot v s < 255 := adjustQuot_lt_of_rem_ne_zero (by omega)
      rw [adjustByte, if_neg hs, if_neg nofun, if_pos hcarry]
      simp only [BitVec.toNat_ofNat]
      omega
    · have hq : adjustQuot v s < 2 ^ 8 := Nat.lt_of_le_of_lt (adjustQuot_le_left v s) v.isLt
      rw [adjustByte, if_neg hs, if_neg nofun, if_neg hcarry]
      simp only [BitVec.toNat_ofNat]
      omega

/-- With no fraction lost the dither changes nothing: the output is the exact quotient (R144, R145, R146). -/
theorem adjustByte_of_rem_eq_zero {v s dc b : Byte} (en : Bool) (hdc : dc.toNat ≤ 254) (hr : adjustRem v s = 0)
    (hq : adjustQuot v s = b.toNat) : (adjustByte v s dc en).o = b ∧ (adjustByte v s dc en).dn = dc := by
  cases en with
  | false =>
    obtain ⟨ho, hdn⟩ := adjustByte_off v s dc
    exact ⟨BitVec.eq_of_toNat_eq (ho.trans hq), hdn⟩
  | true =>
    obtain ⟨ho, hdn⟩ := adjustByte_on v s hdc
    constructor <;> apply BitVec.eq_of_toNat_eq <;> omega

/-- The output is the truncated value or one more (R147). -/
theorem adjustByte_quot_or_succ (v s : Byte) {dc : Byte} (en : Bool) (hdc : dc.toNat ≤ 254) :
    (adjustByte v s dc en).o.toNat = adjustQuot v s ∨ (adjustByte v s dc en).o.toNat = adjustQuot v s + 1 := by
  cases en with
  | false => exact .inl (adjustByte_off v s dc).1
  | true =>
    have ho := (adjustByte_on v s hdc).1
    have hr := adjustRem_lt v s
    omega

/-! ### A run of adjustments (R151) -/

/-- Each carry of the run is one of the wraps of `d0 + K·r` modulo 255, so after `K` outputs all of them are counted. -/
theorem adjustRun_eq (b s : Byte) {d0 : Byte} (hd0 : d0.toNat ≤ 254) (K : Nat) :
    (adjustRun b s d0 K).1 = K * adjustQuot b s + (d0.toNat + K * adjustRem b s) / 255 ∧
    (adjustRun b s d0 K).2.toNat = (d0.toNat + K * adjustRem b s) % 255 := by
  induction K with
  | zero =>
    simp only [adjustRun]
    omega
  | succ K ih =>
    obtain ⟨hsum, hacc⟩ := ih
    obtain ⟨ho, hdn⟩ := adjustByte_on b s (dc := (adjustRun b s d0 K).2) (by omega)
    simp only [adjustRun, Nat.succ_mul]
    omega

/-- The sum of the outputs and the accumulator together are the exact total and the first accumulator: nothing is
lost. -/
theorem adjustRun_conserves (b s : Byte) {d0 : Byte} (hd0 : d0.toNat ≤ 254) (K : Nat) :
    255 * (adjustRun b s d0 K).1 + (adjustRun b s d0 K).2.toNat = K * (b.toNat * s.toNat) + d0.toNat := by
  obtain ⟨hsum, hacc⟩ := adjustRun_eq b s hd0 K
  have htotal : K * (b.toNat * s.toNat) = 255 * (K * adjustQuot b s) + K * adjustRem b s := by
    rw [← adjustQuot_rem, Nat.mul_add, Nat.mul_left_comm]
  omega

end Sys2Proof.Machine

/-! ### The obligations of 41_channel_adjuster.md -/

namespace Sys2Proof.Claims

open Sys2Proof.Machine

/-- Settles O29: the formulas with the dither off and on, the carry being 1 from 255 on and 0 below. -/
theorem adjustComputesTheDitheredByte : Obligations.AdjustComputesTheDitheredByte := by
  intro s v sc dc en hdc q r t
  have hr : r < 255 := adjustRem_lt v sc
  refine ⟨(adjustByte v sc dc en).o, (adjustByte v sc dc en).dn, rfl, ?zero, ?off, ?carry, ?noCarry⟩
  case zero => rintro rfl; rw [adjustByte_scale_zero]; exact ⟨rfl, rfl⟩
  case off => rintro - rfl; exact adjustByte_off v sc dc
  all_goals
    rintro - rfl ht
    have ho : (adjustByte v sc dc true).o.toNat = q + t / 255 := (adjustByte_on v sc hdc).1
    have hdn : (adjustByte v sc dc true).dn.toNat = t % 255 := (adjustByte_on v sc hdc).2
    have hlt := (adjustByte v sc dc true).o.isLt
    omega

/-- Settles O30: at scale 0, raw value 0 and full scale no fraction is lost. -/
theorem adjustEdgeCases : Obligations.AdjustEdgeCases := by
  intro s v sc dc en hdc
  refine ⟨(adjustByte v sc dc en).o, (adjustByte v sc dc en).dn, rfl, ?scaleZero, ?rawZero, ?fullScale,
    adjustByte_quot_or_succ v sc en hdc, adjustByte_dn_le v sc en hdc⟩
  case scaleZero =>
    rintro rfl
    exact adjustByte_of_rem_eq_zero en hdc (adjustRem_zero_right v) (adjustQuot_zero_right v)
  case rawZero =>
    rintro rfl
    exact adjustByte_of_rem_eq_zero en hdc (adjustRem_zero_left sc) (adjustQuot_zero_left sc)
  case fullScale =>
    rintro rfl
    exact adjustByte_of_rem_eq_zero en hdc (adjustRem_full_right v) (adjustQuot_full_right v)

/-- Settles O31, by induction on the number of outputs; the bounds say that the last accumulator is from 0 to 254. -/
theorem ditherConverges : Obligations.DitherConverges := by
  intro b sc d0 K _ hd0
  obtain ⟨hsum, hacc⟩ := adjustRun_eq b sc hd0 K
  have htotal := adjustRun_conserves b sc hd0 K
  exact ⟨hsum, hacc, by omega, by omega⟩

/-- Settles O32: the scale is the quotient of the two bytes. -/
theorem scaleOfAChannel : Obligations.ScaleOfAChannel := by
  intro s c
  have hv : (scaleOf s.regs c).toNat = adjustQuot s.regs.bright (s.regs.corr.get c) := scaleValue_toNat _ _
  refine ⟨scaleOf s.regs c, rfl, hv, ?bounds, ?corrFull, ?brightFull⟩
  case bounds => rw [hv]; exact le_min (adjustQuot_le_left _ _) (adjustQuot_le_right _ _)
  case corrFull => intro h; rw [scaleOf, h, scaleValue_full_right]
  case brightFull => intro h; rw [scaleOf, h, scaleValue_full_left]

/-- Settles O33: a product of two bytes is in the range of the shifts' identity. -/
theorem divisionFreeForm : Obligations.DivisionFreeForm := by
  intro v sc p
  have hp : 255 * adjustQuot v sc + adjustRem v sc = p := adjustQuot_rem v sc
  exact ⟨div_255_eq_shifts (byteProduct_le v sc), by omega⟩

end Sys2Proof.Claims

namespace Sys2Proof.Machine

open Sys2Proof.Claims

/-! ### A busy block under a host that keeps the contract (R193, R198) -/

/-- The state less the host's side of the port and the levels: what the block's own step reads and writes. -/
def blockOf (s : State) : State := { s with host := [], rdata := none, ret := none, trace := [] }

/-- A state that meets both invariants, with a host in the contract of a frame. -/
structure Running (s : State) : Prop where
  inv : Inv s
  inSequence : InSequence s
  contract : KeepsContract s

theorem Running.phaseOk {s : State} (h : Running s) : PhaseOk s.params s.enc := ((inSequence_iff s).mp h.inSequence).1

theorem busy_of_busyCyclesLeft {s : State} (h : 0 < busyCyclesLeft s) : s.busy = true := by
  rw [← Bool.not_eq_false]
  intro hrest
  rw [busyCyclesLeft_of_resting hrest] at h
  exact Nat.lt_irrefl 0 h

/-- What a run of `n` busy cycles keeps, and the cycles that are left after it. -/
structure RunsBusy (n : Nat) (s t : State) : Prop where
  running : Running t
  left : busyCyclesLeft s = busyCyclesLeft t + n
  params_eq : t.params = s.params
  regs_eq : t.regs = s.regs
  mem_eq : t.mem = s.mem

/-- Whatever the host presents, a step of a busy block is the block's own, and takes one off the cycles left. -/
theorem Running.own_step {s : State} (h : Running s) (hbusy : s.busy = true) :
    ∃ t, step s = .next t ∧ RunsBusy 1 s t ∧ blockOf t = blockOf (blockStep s) ∧ t.trace = s.line :: s.trace := by
  obtain ⟨t, hstep, hcycle, hcontract⟩ := step_of_busy_contract hbusy h.contract
  have hblock : blockOf t = blockOf (blockStep s) := (congrArg blockOf hcycle :)
  have hleft : busyCyclesLeft t = busyCyclesLeft (cycle s) := (congrArg busyCyclesLeft hcycle :)
  obtain ⟨hparams, hmem, -, hregs, -⟩ := blockStep_env s
  obtain ⟨-, -, -, -, -, -, htrace⟩ := cycle_env s
  refine ⟨t, hstep, ⟨⟨?_, ?_, hcontract⟩, ?_, ?_, ?_, ?_⟩, hblock, (congrArg State.trace hcycle :).trans htrace⟩
  · exact stepKeepsTheInvariants s t h.inv hstep
  · exact stepKeepsTheSequence s t h.inv h.inSequence hstep
  · rw [hleft, busyCyclesLeft_cycle h.inv h.inSequence hbusy]
  · exact (congrArg State.params hblock :).trans hparams
  · exact (congrArg State.regs hblock :).trans hregs
  · exact (congrArg State.mem hblock :).trans hmem

theorem RunsBusy.cons {n : Nat} {s t u : State} (h : RunsBusy 1 s t) (k : RunsBusy n t u) : RunsBusy (n + 1) s u where
  running := k.running
  left := by rw [h.left, k.left]; rfl
  params_eq := k.params_eq.trans h.params_eq
  regs_eq := k.regs_eq.trans h.regs_eq
  mem_eq := k.mem_eq.trans h.mem_eq

theorem Running.run {n : Nat} {s : State} (h : Running s) (hn : n ≤ busyCyclesLeft s) :
    ∃ t, steps n s = .next t ∧ RunsBusy n s t := by
  induction n generalizing s with
  | zero => exact ⟨s, rfl, h, rfl, rfl, rfl, rfl⟩
  | succ n ih =>
    obtain ⟨u, hstep, hu, -⟩ := h.own_step (busy_of_busyCyclesLeft (by omega))
    have hleft := hu.left
    obtain ⟨t, hrun, ht⟩ := ih hu.running (by omega)
    exact ⟨t, (steps_succ hstep).trans hrun, hu.cons ht⟩

theorem Running.of_steps {n : Nat} {s t : State} (h : Running s) (hn : n ≤ busyCyclesLeft s)
    (hrun : steps n s = .next t) : RunsBusy n s t := by
  obtain ⟨t', hrun', ht⟩ := h.run hn
  cases hrun'.symm.trans hrun
  exact ht

/-! ### What the traversal works on (R161 to R166)

First a load and an advance by their fields, in the terms in which a frame is described (R165, R166). -/

theorem loadedByte_eq_slotAdjusted (s : State) (k : Slot) :
    loadedByte s k = slotAdjusted s.regs s.mem s.trav.cursor s.trav.d k := rfl

@[simp] theorem loadByte_trav (s : State) (k : Slot) :
    (loadByte k s).trav = { s.trav with d := slotAccu s.regs s.mem s.trav.cursor s.trav.d k } := rfl

@[simp] theorem loadByte_reads (s : State) (k : Slot) :
    (loadByte k s).reads = pixelAddr s.regs s.trav.cursor k :: s.reads := rfl

@[simp] theorem loadByte_regs (s : State) (k : Slot) : (loadByte k s).regs = s.regs := rfl

@[simp] theorem loadByte_mem (s : State) (k : Slot) : (loadByte k s).mem = s.mem := rfl

@[simp] theorem advancePixel_trav (s : State) :
    (advancePixel s).trav =
      { s.trav with remain := s.trav.remain - 1, cursor := nextCursor s.trav.cursor s.regs.advance } := rfl

@[simp] theorem advancePixel_reads (s : State) : (advancePixel s).reads = s.reads := rfl

/-- The block less the encoder, the governor and the line: what the loads of a frame read and write. -/
def traversalOf (s : State) : State :=
  { blockOf s with enc := Encoder.reset, gov := Governor.reset, line := false }

theorem traversalOf_eq {s t : State} (hparams : t.params = s.params) (hmem : t.mem = s.mem) (hregs : t.regs = s.regs)
    (htrav : t.trav = s.trav) (hreads : t.reads = s.reads) : traversalOf t = traversalOf s := by
  simp only [traversalOf, blockOf, hparams, hmem, hregs, htrav, hreads]

theorem traversalOf_congr {s t : State} (h : blockOf t = blockOf s) : traversalOf t = traversalOf s :=
  (congrArg traversalOf h :)

theorem traversalOf_loadByte_congr {s t : State} (k : Slot) (h : traversalOf t = traversalOf s) :
    traversalOf (loadByte k t) = traversalOf (loadByte k s) :=
  (congrArg (fun u => traversalOf (loadByte k u)) h :)

theorem loadedByte_congr {s t : State} (k : Slot) (h : traversalOf t = traversalOf s) :
    loadedByte t k = loadedByte s k :=
  (congrArg (fun u => loadedByte u k) h :)

theorem traversalOf_advancePixel_congr {s t : State} (h : traversalOf t = traversalOf s) :
    traversalOf (advancePixel t) = traversalOf (advancePixel s) :=
  (congrArg (fun u => traversalOf (advancePixel u)) h :)

/-! ### The end of a byte (R188, R189) -/

/-- `t` is at the first cycle of the byte of slot `k`, loaded from where the traversal was in `s` (R165). -/
structure LoadsByte (k : Slot) (s t : State) : Prop where
  traversal : traversalOf t = traversalOf (loadByte k s)
  begins : BitBegins t.enc t.line
  bitn : t.enc.bitn = 0
  slot : t.enc.slot = k
  sr : t.enc.sr = (loadedByte s k).o

/-- `t` is done, with the traversal where it was in `s` and the gap marked (R190). -/
structure FrameEnds (s t : State) : Prop where
  traversal : traversalOf t = traversalOf s
  done : t.enc.st = .done
  line_eq : t.line = false
  gov_eq : t.gov = { marked := true, elapsed := 0 }

/-- What follows a pixel from whose last slot the traversal advanced to `s` (R189). -/
inductive PixelEnds (s t : State) : Prop
  | nextPixel (hrem : s.trav.remain ≠ 0) (h : LoadsByte 0 s t)
  | lastPixel (hrem : s.trav.remain = 0) (h : FrameEnds s t)

/-- What follows the byte of slot `k`: the next slot of its pixel, or the end of the pixel (R186). -/
inductive ByteEnds (k : Slot) (s t : State) : Prop
  | nextSlot (hk : k.val < 2) (h : LoadsByte (k + 1) s t)
  | pixelEnd (hk : k.val = 2) (h : PixelEnds (advancePixel s) t)

theorem loadsByte_beginBit {k : Slot} {s u : State} (hu : traversalOf u = traversalOf s) (hph : u.enc.ph = 0)
    (hbitn : u.enc.bitn = 0) (hslot : u.enc.slot = k) : LoadsByte k s (beginBit (loadByte k u)) where
  traversal := traversalOf_loadByte_congr k hu
  begins := ⟨rfl, hph, rfl⟩
  bitn := hbitn
  slot := hslot
  sr := congrArg Adjusted.o (loadedByte_congr k hu)

theorem frameEnds_finish {s u : State} (hu : traversalOf u = traversalOf s) : FrameEnds s (finish u) :=
  ⟨hu, rfl, rfl, rfl⟩

theorem LoadsByte.congr {k : Slot} {s s' t t' : State} (h : LoadsByte k s t) (hs : traversalOf s = traversalOf s')
    (ht : blockOf t' = blockOf t) : LoadsByte k s' t' := by
  have henc : t'.enc = t.enc := (congrArg State.enc ht :)
  have hline : t'.line = t.line := (congrArg State.line ht :)
  refine ⟨(traversalOf_congr ht).trans (h.traversal.trans (traversalOf_loadByte_congr k hs)), ?_, ?_, ?_, ?_⟩
  · rw [henc, hline]; exact h.begins
  · rw [henc]; exact h.bitn
  · rw [henc]; exact h.slot
  · rw [henc, h.sr, loadedByte_congr k hs]

theorem FrameEnds.congr {s s' t t' : State} (h : FrameEnds s t) (hs : traversalOf s = traversalOf s')
    (ht : blockOf t' = blockOf t) : FrameEnds s' t' where
  traversal := (traversalOf_congr ht).trans (h.traversal.trans hs)
  done := (congrArg (·.enc.st) ht :).trans h.done
  line_eq := (congrArg State.line ht :).trans h.line_eq
  gov_eq := (congrArg State.gov ht :).trans h.gov_eq

theorem PixelEnds.congr {s s' t t' : State} (h : PixelEnds s t) (hs : traversalOf s = traversalOf s')
    (ht : blockOf t' = blockOf t) : PixelEnds s' t' := by
  have hrem : s.trav.remain = s'.trav.remain := (congrArg (·.trav.remain) hs :)
  cases h with
  | nextPixel hne h => exact .nextPixel (hrem ▸ hne) (h.congr hs ht)
  | lastPixel hz h => exact .lastPixel (hrem ▸ hz) (h.congr hs ht)

theorem ByteEnds.congr {k : Slot} {s s' t t' : State} (h : ByteEnds k s t) (hs : traversalOf s = traversalOf s')
    (ht : blockOf t' = blockOf t) : ByteEnds k s' t' := by
  cases h with
  | nextSlot hk h => exact .nextSlot hk (h.congr hs ht)
  | pixelEnd hk h => exact .pixelEnd hk (h.congr (traversalOf_advancePixel_congr hs) ht)

/-! ### The cycles of a byte -/

/-- The cycles of its frame that follow the present byte (R193). -/
def cyclesAfterByte (s : State) : Nat :=
  (8 * (2 - s.enc.slot.val) + 24 * (s.trav.remain.toNat - 1)) * s.params.TB

theorem busyCyclesLeft_eq_byte {s : State} (hs : s.enc.st.sending = true) :
    busyCyclesLeft s =
      bitCyclesLeft s.params s.enc + (7 - s.enc.bitn.toNat) * s.params.TB + cyclesAfterByte s := by
  rw [busyCyclesLeft_of_sending hs, bitsAfter, cyclesAfterByte]
  ring

/-- The present byte has a cycle left. -/
theorem cyclesAfterByte_lt {s : State} (hs : s.enc.st.sending = true) (hp : PhaseOk s.params s.enc) :
    cyclesAfterByte s < busyCyclesLeft s := by
  have hinside := hp.inside hs
  have hbit : 0 < bitCyclesLeft s.params s.enc := by
    unfold bitCyclesLeft
    omega
  rw [busyCyclesLeft_eq_byte hs]
  omega

/-- At the first cycle of a byte its eight bit periods are left. -/
theorem busyCyclesLeft_byteBegins {s : State} (hbegin : BitBegins s.enc s.line) (hbitn : s.enc.bitn = 0) :
    busyCyclesLeft s = 8 * s.params.TB + cyclesAfterByte s := by
  obtain ⟨hst, hph, -⟩ := hbegin
  have hzero : s.enc.bitn.toNat = 0 := by rw [hbitn]; rfl
  rw [busyCyclesLeft_of_bitBegins hst hph, bitsAfter, cyclesAfterByte, hzero]
  ring

/-- `t` is within the byte that `s` is in. -/
structure SameByte (s t : State) : Prop where
  traversal : traversalOf t = traversalOf s
  slot : t.enc.slot = s.enc.slot
  sending : t.enc.st.sending = true

theorem SameByte.cyclesAfterByte_eq {s t : State} (h : SameByte s t) : cyclesAfterByte t = cyclesAfterByte s := by
  have hremain : t.trav.remain = s.trav.remain := (congrArg (·.trav.remain) h.traversal :)
  have hparams : t.params = s.params := (congrArg State.params h.traversal :)
  rw [cyclesAfterByte, h.slot, hremain, hparams, cyclesAfterByte]

/-- A transition of a sending encoder stays within the byte, or is made in the last cycle of the byte and ends it. -/
theorem EncoderMove.sameByte_or_byteEnds {gap : Bool} {s t : State} (h : EncoderMove gap s t)
    (hs : s.enc.st.sending = true) :
    SameByte s t ∨ (s.enc.st = .low ∧ LastPhaseCycle s ∧ s.enc.bitn.toNat = 7) ∧ ByteEnds s.enc.slot s t := by
  cases h with
  | rest hrest => rw [busy_of_sending hs] at hrest; cases hrest
  | awaitGap hst | finishEmpty hst | firstByte hst => rw [hst] at hs; cases hs
  | samePhase => exact .inl ⟨rfl, rfl, hs⟩
  | toHighVar | baseToLow | varToLow | nextBit => exact .inl ⟨rfl, rfl, rfl⟩
  | nextByte hst hph hbit hslot =>
    exact .inr ⟨⟨hst, hph, hbit⟩, .nextSlot hslot (loadsByte_beginBit rfl rfl rfl rfl)⟩
  | nextPixel hst hph hbit hslot hrem =>
    exact .inr ⟨⟨hst, hph, hbit⟩, .pixelEnd hslot (.nextPixel hrem (loadsByte_beginBit rfl rfl rfl rfl))⟩
  | lastPixel hst hph hbit hslot hrem =>
    exact .inr ⟨⟨hst, hph, hbit⟩, .pixelEnd hslot (.lastPixel hrem (frameEnds_finish rfl))⟩

theorem busyCyclesLeft_byteEnd {s : State} (hp : PhaseOk s.params s.enc) (hst : s.enc.st = .low)
    (hlast : LastPhaseCycle s) (hbitn : s.enc.bitn.toNat = 7) : busyCyclesLeft s = cyclesAfterByte s + 1 := by
  rw [busyCyclesLeft_of_bitEnds hp hst hlast, bitsAfter, hbitn, cyclesAfterByte, Nat.sub_self, Nat.zero_add]

/-- A cycle of a sending block is one within the byte, or the last one of the byte. -/
theorem Running.step_byte {s : State} (h : Running s) (hs : s.enc.st.sending = true) :
    ∃ t, step s = .next t ∧ RunsBusy 1 s t ∧
      (SameByte s t ∨ busyCyclesLeft s = cyclesAfterByte s + 1 ∧ ByteEnds s.enc.slot s t) := by
  obtain ⟨t, hstep, ht, hblock, -⟩ := h.own_step (busy_of_sending hs)
  have hmove : EncoderMove s.gapOk (tick s) (blockStep s) := encoderStep_move _ _
  have henc : t.enc = (blockStep s).enc := (congrArg State.enc hblock :)
  refine ⟨t, hstep, ht, ?_⟩
  rcases hmove.sameByte_or_byteEnds hs with hsame | ⟨⟨hst, hlast, hbitn⟩, hends⟩
  · exact .inl ⟨(traversalOf_congr hblock).trans hsame.traversal, henc ▸ hsame.slot, henc ▸ hsame.sending⟩
  · exact .inr ⟨busyCyclesLeft_byteEnd h.phaseOk hst hlast hbitn, hends.congr rfl hblock⟩

/-- A byte ends when no cycle of it is left. -/
theorem Running.run_byte {n : Nat} {s : State} (h : Running s) (hs : s.enc.st.sending = true)
    (hn : busyCyclesLeft s = n + cyclesAfterByte s) : ∃ t, steps n s = .next t ∧ ByteEnds s.enc.slot s t := by
  induction n generalizing s with
  | zero =>
    have hlt := cyclesAfterByte_lt hs h.phaseOk
    omega
  | succ n ih =>
    obtain ⟨u, hstep, hu, hsame | ⟨hlast, hends⟩⟩ := h.step_byte hs
    · have hleft := hu.left
      have hafter := hsame.cyclesAfterByte_eq
      obtain ⟨t, hrun, ht⟩ := ih hu.running hsame.sending (by omega)
      exact ⟨t, (steps_succ hstep).trans hrun, hsame.slot ▸ ht.congr hsame.traversal rfl⟩
    · obtain rfl : n = 0 := by omega
      exact ⟨u, steps_one hstep, hends⟩

/-- A byte puts the levels of its bits on the wire, and its end loads the next one or ends the frame. -/
theorem LoadsByte.carries {k : Slot} {a s : State} (h : LoadsByte k a s) (hs : Running s) :
    ∃ t, Carries (byteLevels s.params (loadedByte a k).o) s t ∧ Running t ∧ ByteEnds k (loadByte k a) t := by
  have hleft := busyCyclesLeft_byteBegins h.begins h.bitn
  have hsending : s.enc.st.sending = true := by rw [h.begins.1]; rfl
  obtain ⟨t, hcarries, -⟩ := carries_byte h.begins h.bitn hs.contract.noReset
  obtain ⟨t', hrun', hends⟩ := hs.run_byte hsending hleft
  have hrun := hcarries.run
  rw [length_byteLevels] at hrun
  cases hrun'.symm.trans hrun
  rw [h.slot] at hends
  rw [h.sr] at hcarries
  exact ⟨t, hcarries, (hs.of_steps (by omega) hrun).running, hends.congr h.traversal rfl⟩

/-! ### The pixels of a frame (R166, R172, R195) -/

/-- The traversal after the pixel at which it is in `a`. -/
def pixelSent (a : State) : State := advancePixel (loadByte 2 (loadByte 1 (loadByte 0 a)))

/-- The bytes of the pixel at which the traversal is in `a`. -/
def pixelBytes (a : State) : List Byte :=
  [(loadedByte a 0).o, (loadedByte (loadByte 0 a) 1).o, (loadedByte (loadByte 1 (loadByte 0 a)) 2).o]

/-- The byte of a slot but the last one is followed by that of the next slot. -/
theorem LoadsByte.carries_nextSlot {k : Slot} {a s : State} (h : LoadsByte k a s) (hk : k.val < 2) (hs : Running s) :
    ∃ t, Carries (byteLevels s.params (loadedByte a k).o) s t ∧ Running t ∧ LoadsByte (k + 1) (loadByte k a) t := by
  obtain ⟨t, hcarries, ht, hends⟩ := h.carries hs
  cases hends with
  | nextSlot _ hnext => exact ⟨t, hcarries, ht, hnext⟩
  | pixelEnd htwo => omega

theorem LoadsByte.carries_lastSlot {a s : State} (h : LoadsByte 2 a s) (hs : Running s) :
    ∃ t, Carries (byteLevels s.params (loadedByte a 2).o) s t ∧ Running t ∧
      PixelEnds (advancePixel (loadByte 2 a)) t := by
  obtain ⟨t, hcarries, ht, hends⟩ := h.carries hs
  cases hends with
  | nextSlot hlt => exact absurd hlt (by decide)
  | pixelEnd _ hend => exact ⟨t, hcarries, ht, hend⟩

theorem LoadsByte.carries_pixel {a s : State} (h : LoadsByte 0 a s) (hs : Running s) :
    ∃ t, Carries (bytesLevels s.params (pixelBytes a)) s t ∧ Running t ∧ PixelEnds (pixelSent a) t := by
  obtain ⟨t1, h1, hs1, hb1⟩ := h.carries_nextSlot (by decide) hs
  obtain ⟨t2, h2, hs2, hb2⟩ := hb1.carries_nextSlot (by decide) hs1
  obtain ⟨t3, h3, hs3, hend⟩ := LoadsByte.carries_lastSlot hb2 hs2
  rw [h1.params_eq] at h2
  rw [h2.params_eq, h1.params_eq] at h3
  have hall := h1.append (h2.append h3)
  refine ⟨t3, ?_, hs3, hend⟩
  simpa [bytesLevels, pixelBytes] using hall

/-- The state `s` with the traversal at pixel `i` of the frame that its registers and its memory describe. -/
def framePixel (s : State) (i : Nat) : State :=
  { s with
    trav :=
      { cursor := frameCursor s.regs i
        remain := s.regs.count - BitVec.ofNat 32 i
        d := frameAccu s.regs s.mem i }
    reads := (readList s.regs i).reverse ++ s.reads }

theorem frameBytes_succ (s : State) (i : Nat) :
    frameBytes s.regs s.mem (i + 1) = frameBytes s.regs s.mem i ++ pixelBytes (framePixel s i) := by
  simp only [pixelBytes, loadedByte_eq_slotAdjusted, loadByte_trav, loadByte_regs, loadByte_mem]
  rfl

theorem remain_sub_succ (count : Word) (i : Nat) :
    count - BitVec.ofNat 32 i - 1#32 = count - BitVec.ofNat 32 (i + 1) := by
  rw [BitVec.ofNat_add, sub_sub]

theorem pixelSent_env (a : State) : SameEnvironment a (pixelSent a) :=
  (((loadByte_env 0 a).trans (loadByte_env 1 _)).trans (loadByte_env 2 _)).trans (advancePixel_env _)

/-- A pixel takes the traversal to the next one (R166, R172). -/
theorem traversalOf_pixelSent (s : State) (i : Nat) :
    traversalOf (pixelSent (framePixel s i)) = traversalOf (framePixel s (i + 1)) := by
  obtain ⟨hparams, hmem, -, hregs, -⟩ := pixelSent_env (framePixel s i)
  refine traversalOf_eq hparams hmem hregs ?_ ?_
  · simp [pixelSent, framePixel, frameCursor_succ, frameAccu, remain_sub_succ]
  · simp [pixelSent, framePixel, readList]

theorem framePixel_remain_eq_zero_iff {s : State} {i : Nat} (hi : i ≤ s.regs.count.toNat) :
    (framePixel s i).trav.remain = 0 ↔ i = s.regs.count.toNat := by
  change s.regs.count - BitVec.ofNat 32 i = 0 ↔ _
  have hlt := s.regs.count.isLt
  constructor
  · intro h
    bv_omega
  · rintro rfl
    simp

theorem bytesLevels_append (p : Params) (l l' : List Byte) :
    bytesLevels p (l ++ l') = bytesLevels p l ++ bytesLevels p l' := by
  simp [bytesLevels]

/-- The first `n` pixels of a frame put their bytes on the wire (R195). -/
theorem carries_pixels {f s : State} (h : PixelEnds (framePixel f 0) s) (hs : Running s) {n : Nat}
    (hn : n ≤ f.regs.count.toNat) :
    ∃ t, Carries (bytesLevels s.params (frameBytes f.regs f.mem n)) s t ∧ Running t ∧ PixelEnds (framePixel f n) t := by
  induction n with
  | zero => exact ⟨s, .refl hs.contract.noReset, hs, h⟩
  | succ n ih =>
    obtain ⟨t, hcarries, ht, hend⟩ := ih (by omega)
    cases hend with
    | lastPixel hrem =>
      have hlast := (framePixel_remain_eq_zero_iff (by omega)).mp hrem
      omega
    | nextPixel _ hload =>
      obtain ⟨u, hpixel, hu, hend'⟩ := hload.carries_pixel ht
      rw [hcarries.params_eq] at hpixel
      rw [frameBytes_succ, bytesLevels_append]
      exact ⟨u, hcarries.append hpixel, hu, hend'.congr (traversalOf_pixelSent f n) rfl⟩

/-! ### The gap before a frame (R183, R193) -/

theorem gapCyclesLeft_pos (p : Params) (g : Governor) : 0 < gapCyclesLeft p g := by
  unfold gapCyclesLeft
  split <;> omega

/-- In the last cycle of the gap the first pixel is loaded, or a frame without one is done (R183). -/
theorem blockStep_wait_pixelEnds {s : State} (h : Running s) (hst : s.enc.st = .wait) (hgap : s.gapOk = true) :
    PixelEnds s (blockStep s) := by
  by_cases hrem : s.trav.remain = 0
  · rw [blockStep_wait_empty hst hgap hrem]
    exact .lastPixel hrem (frameEnds_finish rfl)
  · obtain ⟨hbitn, hslot, -⟩ := h.phaseOk.empty (by rw [hst]; rfl)
    rw [blockStep_wait_pixel hst hgap hrem]
    exact .nextPixel hrem (loadsByte_beginBit (u := restartPhase (tick s)) rfl rfl hbitn hslot)

/-- WAIT holds the line for the cycles of the gap, and then begins with the first pixel. -/
theorem Running.carries_wait {s : State} (h : Running s) (hst : s.enc.st = .wait) :
    ∃ t, Carries (List.replicate (gapCyclesLeft s.params s.gov) s.line) s t ∧ Running t ∧ PixelEnds s t := by
  obtain ⟨n, hn⟩ := Nat.exists_eq_add_one.mpr (gapCyclesLeft_pos s.params s.gov)
  have hleft := busyCyclesLeft_of_wait hst
  obtain ⟨u, hticks, hgapLeft⟩ := ticks_gap (n := n) hst (by omega) h.contract.noReset
  have hu := h.of_steps (by omega) hticks.run
  have hust : u.enc.st = .wait := hticks.enc_eq ▸ hst
  have hgap : u.gapOk = true := (gapOk_iff_gapCyclesLeft u).mpr (by omega)
  have htraversal : traversalOf u = traversalOf s :=
    traversalOf_eq hu.params_eq hu.mem_eq hu.regs_eq hticks.trav_eq hticks.reads_eq
  obtain ⟨t, hstep, ht, hblock, htrace⟩ := hu.running.own_step (by rw [State.busy, hust]; rfl)
  refine ⟨t, ⟨?_, ?_, ?_, ht.running.contract.noReset⟩, ht.running, ?_⟩
  · rw [List.length_replicate, hn]
    exact steps_add hticks.run (steps_one hstep)
  · rw [htrace, hticks.trace_eq, hticks.line_eq, hn, List.reverse_replicate, List.replicate_succ, List.cons_append]
  · exact ht.params_eq.trans hu.params_eq
  · exact (blockStep_wait_pixelEnds hu.running hust hgap).congr htraversal hblock

/-! ### A whole frame (R172, R193, R195, R196) -/

theorem length_frameBytes (r : Regs) (m : List Host.Cell) (n : Nat) : (frameBytes r m n).length = 3 * n := by
  induction n with
  | zero => rfl
  | succ n ih =>
    simp only [frameBytes, List.length_append, ih, List.length_cons, List.length_nil]
    omega

theorem length_bytesLevels (p : Params) (l : List Byte) : (bytesLevels p l).length = 8 * l.length * p.TB := by
  induction l with
  | nil => simp [bytesLevels]
  | cons o l ih =>
    have hcons : bytesLevels p (o :: l) = byteLevels p o ++ bytesLevels p l := rfl
    rw [hcons, List.length_append, ih, length_byteLevels, List.length_cons]
    ring

theorem length_frameLevels (p : Params) (r : Regs) (m : List Host.Cell) (n : Nat) :
    (bytesLevels p (frameBytes r m n)).length = 24 * n * p.TB := by
  rw [length_bytesLevels, length_frameBytes, ← Nat.mul_assoc]

/-- The pulse sequence of a list of bytes, written out, is their levels (R196). -/
theorem pulseLevels_pulseSeq (p : Params) (l : List Byte) : pulseLevels (pulseSeq p l) = bytesLevels p l := by
  induction l with
  | nil => rfl
  | cons o l ih =>
    have hcons : pulseSeq p (o :: l) = (byteBits o).map (fun b => (highCycles p b, lowCycles p b)) ++ pulseSeq p l := rfl
    rw [hcons, pulseLevels, List.map_append, List.flatten_append, List.map_map]
    exact congrArg (byteLevels p o ++ ·) ih

theorem framePixel_zero_trav (s : State) : (framePixel s 0).trav = constructed s.regs := by
  have hremain : s.regs.count - BitVec.ofNat 32 0 = s.regs.count := BitVec.sub_zero _
  rw [← construct_trav]
  simp only [framePixel, hremain, frameCursor_zero]
  rfl

theorem traversalOf_startedState (s : State) (rest : List HostCycle) :
    traversalOf (startedState s rest) = traversalOf (framePixel s 0) :=
  traversalOf_eq rfl rfl rfl (framePixel_zero_trav s).symm rfl

theorem startedState_inSequence (s : State) (rest : List HostCycle) : InSequence (startedState s rest) := by
  have hstart := startFrame_inSequence s
  rw [startFrame_eq] at hstart
  exact hstart

/-- The cycle of a START is low, and leaves a running block (R102). -/
theorem carries_start {s : State} {w : Word} {ht : Transaction} {rest : List HostCycle} (hs : Inv s)
    (hrest : Resting s) (hdecode : decodeTransaction ht = .wrCmdStart w) (hhost : s.host = ⟨[], .word ht⟩ :: rest)
    (hcontract : ∀ c ∈ rest, c.keepsContract) :
    Carries [false] s (startedState s rest) ∧ Running (startedState s rest) := by
  obtain ⟨-, -, -, hc⟩ := (inv_iff s).mp hs
  have hline : s.line = false := hc.line_low (resting_iff.mp hrest)
  have hstep := step_start hrest hdecode hhost
  refine ⟨⟨steps_one hstep, congrArg (· :: s.trace) hline, rfl, fun c hc => (hcontract c hc).2⟩, ?_⟩
  exact ⟨stepKeepsTheInvariants s _ hs hstep, startedState_inSequence s rest, hcontract⟩

/-- From the START on: the gap with the line low, and then the pixels of the frame, after which it is done. -/
theorem Running.carries_frame {s : State} {rest : List HostCycle} (h : Running (startedState s rest))
    (hwait : (startedState s rest).enc.st = .wait) (hline : s.line = false)
    (hgap : gapCyclesLeft (startedState s rest).params (startedState s rest).gov = waitCycles s) :
    ∃ t, Carries (List.replicate (waitCycles s) false ++
          bytesLevels s.params (frameBytes s.regs s.mem s.regs.count.toNat)) (startedState s rest) t ∧
      FrameEnds (framePixel s s.regs.count.toNat) t := by
  obtain ⟨u, hwaits, hu, hpixel⟩ := h.carries_wait hwait
  obtain ⟨t, hpixels, -, hend⟩ := carries_pixels (hpixel.congr (traversalOf_startedState s rest) rfl) hu le_rfl
  have hlow : (startedState s rest).line = false := hline
  rw [hwaits.params_eq] at hpixels
  rw [hgap, hlow] at hwaits
  cases hend with
  | nextPixel hmore => exact absurd ((framePixel_remain_eq_zero_iff le_rfl).mpr rfl) hmore
  | lastPixel _ hends => exact ⟨t, hwaits.append hpixels, hends⟩

theorem framePixel_count_trav (s : State) :
    (framePixel s s.regs.count.toNat).trav =
      { cursor := frameCursor s.regs s.regs.count.toNat
        remain := 0
        d := frameAccu s.regs s.mem s.regs.count.toNat } := by
  simp [framePixel]

/-! ### Words and integers modulo 2^32 (R162, R166) -/

/-- A word's number counts in a sum modulo 2^32 as any integer that the word was made from. -/
theorem ofInt_toNat_ofInt_add (a b : Int) :
    BitVec.ofInt 32 (((BitVec.ofInt 32 a).toNat : Int) + b) = BitVec.ofInt 32 (a + b) := by
  rw [BitVec.ofInt_add, BitVec.ofInt_natCast, BitVec.ofNat_toNat, BitVec.setWidth_eq, ← BitVec.ofInt_add]

theorem cursor0_of_reverse {r : Regs} (hcount : r.count ≠ 0) (hadvance : r.advance.toInt < 0) :
    cursor0 r =
      BitVec.ofInt 32 ((r.base.toNat : Int) - 3 * ((r.count.toNat : Int) - 1) * r.advance.toInt) :=
  if_pos ⟨hcount, hadvance⟩

theorem toNat_nextCursor (cursor advance : Word) :
    ((nextCursor cursor advance).toNat : Int) = ((cursor.toNat : Int) + 3 * advance.toInt) % 2 ^ 32 := by
  rw [nextCursor, BitVec.toNat_ofInt]
  exact Int.toNat_of_nonneg (Int.emod_nonneg _ (by decide))

end Sys2Proof.Machine

/-! ### The obligations of 42_pixel_traversal.md -/

namespace Sys2Proof.Claims

open Sys2Proof.Machine

/-- Settles O53, by induction on the pixels of the frame: each pixel puts its three bytes on the wire and leaves the
traversal, and the reads, where the frame's description has them for the next pixel. -/
theorem oneFrameOnTheWire : Obligations.OneFrameOnTheWire := by
  intro s w ht rest hs hrest hcount hdecode hhost hcontract N busyCycles
  obtain ⟨-, hgov, -, hc⟩ := (inv_iff s).mp hs
  obtain ⟨hstart, hrunning⟩ := carries_start hs hrest hdecode hhost hcontract
  have hwait : (startedState s rest).enc.st = .wait := if_neg fun h => hcount h.1
  have hgap : gapCyclesLeft (startedState s rest).params (startedState s rest).gov = waitCycles s :=
    gapCyclesLeft_started hgov
  constructor
  · intro k hk hkle
    obtain ⟨n, rfl⟩ : ∃ n, k = 1 + n := ⟨k - 1, by omega⟩
    have hleft : busyCyclesLeft (startedState s rest) = busyCycles := by
      rw [busyCyclesLeft_of_wait hwait, hgap]
      rfl
    obtain ⟨u, hrun, hu⟩ := hrunning.run (n := n) (by omega)
    have huleft := hu.left
    have hbusy : u.busy = true := busy_of_busyCyclesLeft (by omega)
    exact ⟨u, steps_add hstart.run hrun, fun hresting => by rw [resting_iff.mp hresting] at hbusy; cases hbusy⟩
  · obtain ⟨t, hframe, hends⟩ := hrunning.carries_frame hwait (hc.line_low (resting_iff.mp hrest)) hgap
    have hall := hstart.append hframe
    have hrun := hall.run
    have htrace := hall.trace_eq
    have hcycles : ([false] ++ (List.replicate (waitCycles s) false ++
        bytesLevels s.params (frameBytes s.regs s.mem N))).length = 1 + busyCycles := by
      simp only [List.length_append, List.length_replicate, List.length_singleton, length_frameLevels]
      rfl
    rw [hcycles] at hrun
    rw [← List.append_assoc] at htrace
    refine ⟨t, hrun, hends.done, hends.line_eq, ?_, ?_, ?_, hends.gov_eq, ?_, ?_⟩
    · rw [htrace, pulseLevels_pulseSeq, List.replicate_add]
      rfl
    · exact (congrArg State.reads hends.traversal :)
    · exact (congrArg State.trav hends.traversal :).trans (framePixel_count_trav s)
    · exact (congrArg State.regs hends.traversal :)
    · exact (congrArg State.mem hends.traversal :)

/-- Settles O37: pixel `i` of the reverse traversal is pixel `count - 1 - i` from BASE on. -/
theorem reverseTraversalEndsOnTheFirstPixel : Obligations.ReverseTraversalEndsOnTheFirstPixel := by
  intro r i hadvance hi
  have hcount : r.count ≠ 0 := by
    intro h
    rw [h] at hi
    exact Nat.not_lt_zero i hi
  have hindex : ((r.count.toNat - 1 - i : Nat) : Int) = (r.count.toNat : Int) - 1 - i := by omega
  rw [frameCursor, cursor0_of_reverse hcount hadvance, ofInt_toNat_ofInt_add, hindex]
  congr 1
  ring

/-- Settles O28: the accumulator of the channel is the one that `Adjust` answers, and the others are not written. -/
theorem loadByteFetchesAdjustsAndLoads : Obligations.LoadByteFetchesAdjustsAndLoads :=
  fun _ _ => ⟨_, _, _, rfl, rfl, _, get_set_same _ _ _, fun _ h => get_set_other _ _ h, rfl⟩

/-- Settles O34: `Construct` writes the traversal alone. -/
theorem constructStartsTheTraversal : Obligations.ConstructStartsTheTraversal := by
  intro s
  rw [← construct_trav]
  rfl

/-- Settles O35: with a pixel remaining the count goes down without a wrap. -/
theorem advanceAndHas : Obligations.AdvanceAndHas := by
  intro s n
  refine ⟨rfl, fun hrem => ⟨_, _, toNat_nextCursor _ _, ?_, rfl⟩⟩
  have hpos := one_le_toNat hrem
  bv_omega

end Sys2Proof.Claims

namespace Sys2Proof.Machine

open Sys2Proof.Claims

/-! ### A cycle of the reset gap (R182, R183, R194) -/

theorem gapCyclesLeft_of_marked (p : Params) {g : Governor} (h : g.marked = true) :
    gapCyclesLeft p g = p.WAIT_TIME - g.elapsed.toNat + 1 :=
  if_pos h

/-- From `s` to `t` the governor ticks, the line is held, and no bit begins; no reset comes afterwards. -/
structure GapTick (s t : State) : Prop where
  params_eq : t.params = s.params
  gov_eq : t.gov = tickGovernor s.params s.gov
  line_eq : t.line = s.line
  quiet : t.enc.st.sending = false
  noReset : NoReset t

namespace GapTick

variable {s t : State}

theorem setRdata (h : GapTick s t) (w : Option Word) : GapTick s (t.setRdata w) :=
  ⟨h.params_eq, h.gov_eq, h.line_eq, h.quiet, h.noReset⟩

theorem setRet (h : GapTick s t) (r : ProcResult) : GapTick s (t.setRet r) :=
  ⟨h.params_eq, h.gov_eq, h.line_eq, h.quiet, h.noReset⟩

theorem pushHost (h : GapTick s t) {l : List HostCycle} (hl : ∀ c ∈ l, c.input ≠ .reset) : GapTick s (t.pushHost l) :=
  ⟨h.params_eq, h.gov_eq, h.line_eq, h.quiet, List.forall_mem_append.mpr ⟨hl, h.noReset⟩⟩

theorem writeRegs (h : GapTick s t) (f : Regs → Regs) : GapTick s (writeRegs f t) :=
  ⟨h.params_eq, h.gov_eq, h.line_eq, h.quiet, h.noReset⟩

/-- An accepted START goes to WAIT or to DONE, and leaves the governor and the line (R102, R216). -/
theorem startFrame (h : GapTick s t) : GapTick s (startFrame t) := by
  refine ⟨h.params_eq, h.gov_eq, h.line_eq, ?_, h.noReset⟩
  change (if t.regs.count = 0 ∧ t.regs.zlp = false then EncState.done else .wait).sending = false
  split <;> rfl

end GapTick

/-- The cycle of a resting block without an operation (R182). -/
theorem cycle_resting {s : State} (hrest : s.busy = false) :
    cycle s = { s with gov := tickGovernor s.params s.gov, rdata := none, trace := s.line :: s.trace } := by
  rw [cycle, blockStep_resting hrest]
  rfl

section Resting

variable {s : State} (hrest : s.busy = false) (hreset : NoReset s)
include hrest hreset

theorem gapTick_cycle : GapTick s (cycle s) := by
  have hquiet : s.enc.st.sending = false :=
    Bool.eq_false_iff.mpr fun hs => by rw [busy_of_sending hs] at hrest; cases hrest
  rw [cycle_resting hrest]
  exact ⟨rfl, rfl, rfl, hquiet, hreset⟩

theorem gapTick_readCycle (w : Word) : GapTick s (readCycle w s) := (gapTick_cycle hrest hreset).setRdata (some w)

theorem gapTick_writeRegsCycle (f : Regs → Regs) : GapTick s (writeCycle (writeRegs f) s) := by
  rw [writeCycle_resting _ hrest]
  exact (gapTick_cycle hrest hreset).writeRegs f

theorem gapTick_startCycle : GapTick s (writeCycle startFrame s) := by
  rw [writeCycle_resting _ hrest]
  exact (gapTick_cycle hrest hreset).startFrame

theorem exec_word_gapTick (w : Transaction) : ∃ t, exec (decodeTransaction w) s = .next t ∧ GapTick s t := by
  cases hostMeaning_of_encode (decodeTransaction_encodes w).encode_eq with
  | nop hi => rw [hi]; exact ⟨_, rfl, gapTick_cycle hrest hreset⟩
  | read _ v _ h => exact ⟨_, h s, gapTick_readCycle hrest hreset _⟩
  | ignored _ _ _ h => exact ⟨_, h s, gapTick_cycle hrest hreset⟩
  | writeRegs _ _ f _ h => exact ⟨_, h s, gapTick_writeRegsCycle hrest hreset f⟩
  | start d hi => rw [hi]; exact ⟨_, rfl, gapTick_startCycle hrest hreset⟩

/-- Whatever a resting block is presented, STARTs among it, its cycle is one of the gap (R216). -/
theorem exec_input_gapTick {input : HostInput} {i : Instr} (h : input.instr? = some i) :
    ∃ t, exec i s = .next t ∧ GapTick s t := by
  have hread := gapTick_readCycle hrest hreset
  cases input with
  | word ht => cases h; exact exec_word_gapTick hrest hreset ht
  | start => cases h; exact ⟨_, rfl, gapTick_startCycle hrest hreset⟩
  | poll =>
    cases h
    refine ⟨_, rfl, ?_⟩
    split
    · exact (hread _).pushHost (by simp [pollCycle])
    · exact hread _
  | has n => cases h; exact ⟨_, rfl, (hread _).setRet _⟩
  | showFrame base n =>
    cases h
    exact ⟨_, rfl, (gapTick_writeRegsCycle hrest hreset _).pushHost (by simp [wordCycle, pollCycle])⟩
  | reset => cases h

end Resting

/-- Without a reset a step runs an operation that the host's input stands for; with no host cycle left that is `NOP`,
as for the word 0 (R92, R93, R127). -/
theorem step_eq_exec_input {s : State} (hreset : NoReset s) :
    ∃ (input : HostInput) (i : Instr), input.instr? = some i ∧ step s = exec i (fetched s) := by
  cases hhost : s.host with
  | nil => exact ⟨.word 0, .nop, rfl, by rw [step, fetched, hhost]⟩
  | cons c rest =>
    have hc : c.input ≠ .reset := hreset c (by rw [hhost]; exact List.mem_cons_self ..)
    have hrun {i : Instr} (hi : c.input.instr? = some i) : step s = exec i (fetched s) := by
      simp only [step, hhost, hi]
    cases hinput : c.input with
    | reset => exact absurd hinput hc
    | word | start | poll | has | showFrame => exact ⟨c.input, _, by rw [hinput]; rfl, hrun (by rw [hinput]; rfl)⟩

theorem gapTick_resting {s : State} (hrest : s.busy = false) (hreset : NoReset s) :
    ∃ t, steps 1 s = .next t ∧ GapTick s t := by
  obtain ⟨input, i, hi, hstep⟩ := step_eq_exec_input hreset
  have hrest' : (fetched s).busy = false := by rw [State.busy, fetched_enc]; exact hrest
  obtain ⟨t, hexec, htick⟩ := exec_input_gapTick hrest' (fetched_noReset hreset) hi
  obtain ⟨m, l, hfetched, -⟩ := fetched_eq s
  rw [hfetched] at htick
  exact ⟨t, steps_one (hstep.trans hexec), htick.params_eq, htick.gov_eq, htick.line_eq, htick.quiet, htick.noReset⟩

theorem gapTick_wait {s : State} (hst : s.enc.st = .wait) (hgap : s.gapOk = false) (hreset : NoReset s) :
    ∃ t, steps 1 s = .next t ∧ GapTick s t := by
  obtain ⟨t, ht⟩ := ticks_wait hst hgap hreset
  exact ⟨t, ht.run, ht.params_eq, ht.gov_eq, ht.line_eq, by rw [ht.enc_eq, hst]; rfl, ht.noReset⟩

/-- A block that sends nothing begins no bit before the gap has elapsed: it rests or is in WAIT. -/
theorem gapTick_of_quiet {s : State} (hquiet : s.enc.st.sending = false) (hgap : s.gapOk = false)
    (hreset : NoReset s) : ∃ t, steps 1 s = .next t ∧ GapTick s t := by
  cases hbusy : s.busy with
  | false => exact gapTick_resting hbusy hreset
  | true => exact gapTick_wait (wait_of_busy hbusy hquiet) hgap hreset

/-- The line is held until the gap has elapsed, and in the cycle in which it has (R194). -/
theorem line_held_through_gap {n : Nat} {s : State} (hquiet : s.enc.st.sending = false)
    (hn : n < gapCyclesLeft s.params s.gov) (hreset : NoReset s) : ∃ t, steps n s = .next t ∧ t.line = s.line := by
  induction n generalizing s with
  | zero => exact ⟨s, rfl, rfl⟩
  | succ n ih =>
    have hgap : s.gapOk = false := by
      rw [← Bool.not_eq_true, gapOk_iff_gapCyclesLeft]
      omega
    obtain ⟨t, hrun, ht⟩ := gapTick_of_quiet hquiet hgap hreset
    have hleft : gapCyclesLeft s.params s.gov = gapCyclesLeft t.params t.gov + 1 := by
      rw [ht.params_eq, ht.gov_eq]
      exact gapCyclesLeft_tick hgap
    obtain ⟨u, hrest, hline⟩ := ih ht.quiet (by omega) ht.noReset
    exact ⟨u, Nat.add_comm 1 n ▸ steps_add hrun hrest, hline.trans ht.line_eq⟩

/-! ### The end of WAIT (R183, R212) -/

theorem blockStep_leaves_wait {s : State} (hst : s.enc.st = .wait) (hgap : s.gapOk = true) :
    (blockStep s).enc.st ≠ .wait := by
  by_cases hrem : s.trav.remain = 0
  · rw [blockStep_wait_empty hst hgap hrem]
    exact nofun
  · rw [blockStep_wait_pixel hst hgap hrem]
    exact nofun

theorem step_leaves_wait {s : State} (hst : s.enc.st = .wait) (hgap : s.gapOk = true) (hreset : NoReset s) :
    ∃ t, step s = .next t ∧ t.enc.st ≠ .wait := by
  obtain ⟨t, hstep, hsame⟩ := step_of_busy (by rw [State.busy, hst]; rfl) hreset
  obtain ⟨m, l, hfetched, -⟩ := fetched_eq s
  rw [hfetched] at hsame
  have hleaves : (blockStep ((s.setMem m).setHost l)).enc.st ≠ .wait := blockStep_leaves_wait hst hgap
  exact ⟨t, hstep, fun h => hleaves (hsame.enc_eq ▸ h)⟩

/-! ### A resting block and a host that writes nothing (R182, R215) -/

/-- The state `n` cycles after `s` with the block at rest, `w` the answer in the last of them. -/
def restedFor (n : Nat) (w : Option Word) (s : State) : State :=
  { s with
    host := s.host.drop n
    gov := tickTimes s.params n s.gov
    rdata := w
    trace := List.replicate n s.line ++ s.trace }

theorem restedFor_restedFor_one (n : Nat) (w w' : Option Word) (s : State) :
    restedFor n w (restedFor 1 w' s) = restedFor (n + 1) w s := by
  simp only [restedFor, List.drop_drop, Nat.add_comm 1 n, List.replicate_add, List.append_assoc, tickTimes]

/-- A word that writes nothing, in a cycle of a resting block: only the answer is added. -/
theorem exec_passive_resting {s : State} (hrest : s.busy = false) {w : Transaction}
    (hw : htValid w = false ∨ htWe w = false) :
    ∃ v, exec (decodeTransaction w) s =
      .next { s with gov := tickGovernor s.params s.gov, rdata := v, trace := s.line :: s.trace } := by
  have hcycle := cycle_resting hrest
  cases hvalid : htValid w with
  | false =>
    rw [decodeTransaction_invalid hvalid]
    exact ⟨none, congrArg _ hcycle⟩
  | true =>
    have hwe : htWe w = false := hw.resolve_left (by rw [hvalid]; nofun)
    rw [← htWord_fields hvalid, hwe, decodeTransaction_readWord]
    have hbit : (htWord false (htOff w) 0).toNat.testBit 39 = true :=
      (BitVec.testBit_toNat _).trans (htValid_htWord false (htOff w) 0)
    obtain ⟨v, u, hnop, hread⟩ := readsChangeNothing _ s _ (encode_decodeRead (htOff w)) hbit (testBit_we ..)
    cases hnop
    rw [hread, hcycle]
    exact ⟨_, rfl⟩

theorem step_word {s : State} {w : Transaction} {rest : List HostCycle} (h : s.host = ⟨[], .word w⟩ :: rest) :
    step s = exec (decodeTransaction w) (s.setHost rest) := by
  have hfetched : fetched s = s.setHost rest := by
    rw [fetched, h]
    rfl
  rw [← hfetched, step, h]
  rfl

theorem step_passive_resting {s : State} (hrest : s.busy = false) (hhost : ∀ c ∈ s.host, c.passive) :
    ∃ w, step s = .next (restedFor 1 w s) := by
  cases h : s.host with
  | nil =>
    have hdrop : s.host.drop 1 = s.host := by rw [h]; rfl
    have hstep : step s = .next (cycle s) := by rw [step, h]; rfl
    rw [hstep, cycle_resting hrest]
    refine ⟨none, ?_⟩
    rw [restedFor, hdrop]
    rfl
  | cons c rest =>
    obtain ⟨stores, input⟩ := c
    obtain ⟨rfl, w, rfl, hw⟩ := hhost _ (h ▸ List.mem_cons_self ..)
    obtain ⟨v, hexec⟩ := exec_passive_resting (s := s.setHost rest) hrest hw
    refine ⟨v, ?_⟩
    rw [step_word h, hexec, restedFor, h]
    rfl

/-- As long as the host writes nothing, a resting block only ticks. -/
theorem rest_run {n : Nat} {s : State} (hrest : s.busy = false) (hhost : ∀ c ∈ s.host, c.passive) :
    ∃ w, steps n s = .next (restedFor n w s) := by
  induction n generalizing s with
  | zero => exact ⟨s.rdata, rfl⟩
  | succ n ih =>
    obtain ⟨w, hstep⟩ := step_passive_resting hrest hhost
    obtain ⟨w', hrun⟩ := ih (s := restedFor 1 w s) hrest fun c hc => hhost c (List.mem_of_mem_drop hc)
    rw [restedFor_restedFor_one] at hrun
    exact ⟨w', (steps_succ hstep).trans hrun⟩

/-! ### Entering HIGH_VAR (R184, R185) -/

/-- If `t` is in HIGH_VAR and `s` is not, the bit is a 1, and HIGH_VAR has at least one cycle. -/
def HighVarForOne (s t : State) : Prop :=
  s.enc.st ≠ .highVar → t.enc.st = .highVar → t.enc.cb = true ∧ 1 ≤ t.params.T2

theorem HighVarForOne.of_same {s t : State} (h : t.enc.st = s.enc.st) : HighVarForOne s t :=
  fun hs ht => absurd (h.symm.trans ht) hs

theorem HighVarForOne.of_ne {s t : State} (h : t.enc.st ≠ .highVar) : HighVarForOne s t := fun _ ht => absurd ht h

theorem endOfPixel_highVarForOne (s : State) : HighVarForOne s (endOfPixel s) := by
  unfold endOfPixel
  dsimp only
  split
  · exact .of_ne nofun
  · exact .of_ne nofun

theorem stepWait_highVarForOne (gap : Bool) (s : State) : HighVarForOne s (stepWait gap s) := by
  unfold stepWait
  split
  · split
    · exact .of_ne nofun
    · exact .of_ne nofun
  · exact .of_same rfl

/-- The one transition into HIGH_VAR: its guard is what is claimed. -/
theorem stepHighBase_highVarForOne (s : State) : HighVarForOne s (stepHighBase s) := by
  unfold stepHighBase
  split
  · exact .of_same rfl
  · dsimp only
    split
    next h => exact fun _ _ => h
    next => exact .of_ne nofun

theorem stepHighVar_highVarForOne (s : State) : HighVarForOne s (stepHighVar s) := by
  unfold stepHighVar
  split
  · exact .of_same rfl
  · exact .of_ne nofun

theorem stepLow_highVarForOne (s : State) : HighVarForOne s (stepLow s) := by
  unfold stepLow
  split
  · exact .of_same rfl
  · dsimp only
    split
    · exact .of_ne nofun
    · split
      · exact .of_ne nofun
      · exact endOfPixel_highVarForOne (restartPhase s)

theorem encoderStep_highVarForOne (gap : Bool) (s : State) : HighVarForOne s (encoderStep gap s) := by
  unfold encoderStep
  split
  · exact .of_same rfl
  · exact stepWait_highVarForOne gap s
  · exact stepHighBase_highVarForOne s
  · exact stepHighVar_highVarForOne s
  · exact stepLow_highVarForOne s
  · exact .of_same rfl

theorem cycle_highVarForOne (s : State) : HighVarForOne s (cycle s) := encoderStep_highVarForOne s.gapOk (tick s)

theorem AfterCycle.highVarForOne {s t : State} (h : AfterCycle s t) : HighVarForOne s t := by
  induction h with
  | quiet | write => exact cycle_highVarForOne s
  | start =>
    refine .of_ne ?_
    change (if (cycle s).regs.count = 0 ∧ (cycle s).regs.zlp = false then EncState.done else .wait) ≠ .highVar
    split <;> nofun
  | reset => exact .of_ne nofun
  | setRdata _ _ ih | setRet _ _ ih | setHost _ _ ih => exact ih

/-- Every row of the host takes a cycle, also where its operands are not those that the decoder gives. -/
theorem HostMeaning.takesACycle {i : Instr} (h : HostMeaning i) : TakesACycle i := by
  cases h with
  | nop hi => rw [hi]; exact .of_cycle fun _ => rfl
  | read _ _ _ h => exact .of_readCycle h
  | ignored _ _ _ h => exact .of_cycle h
  | writeRegs _ _ _ _ h => exact .of_writeRegs h
  | start d hi => rw [hi]; exact .of_startFrame fun _ => rfl

theorem TakesACycle.highVarForOne {i : Instr} (h : TakesACycle i) (s : State) :
    ∃ t, exec i s = .next t ∧ HighVarForOne s t := by
  obtain ⟨t, hafter, hexec⟩ := h s
  exact ⟨t, hexec, hafter.highVarForOne⟩

/-- Only the step in HIGH_BASE, alone or as part of a cycle, enters HIGH_VAR; every other operation keeps the encoder's
state or writes another one. -/
theorem exec_highVarForOne (i : Instr) (s : State) : ∃ t, exec i s = .next t ∧ HighVarForOne s t := by
  cases i with
  | nop | rdCmd | rdCfg | rdStatus | rdBase | rdCount | rdAdvance | rdLaneOff | rdBright | rdCorr | rdBias | rdDstate
  | rdRemain | rdCursor | wrCmdStart | wrCmdNone | wrCfg | wrStatus | wrBase | wrCount | wrAdvance | wrLaneOff
  | wrBright | wrCorr | wrBias | wrDstate | wrRemain | wrCursor | rdRsvd34 | rdRsvd38 | rdMisalOdd | rdMisal2
  | wrRsvd34 | wrRsvd38 | wrMisalOdd | wrMisal2 => exact (hostMeaning_of_isHost rfl).takesACycle.highVarForOne s
  | pseudoStart => exact (takesACycle_of_instr? (input := .start) rfl).highVarForOne s
  | pseudoPoll => exact (takesACycle_of_instr? (input := .poll) rfl).highVarForOne s
  | pseudoHas n => exact (takesACycle_of_instr? (input := .has n) rfl).highVarForOne s
  | pseudoShow base n => exact (takesACycle_of_instr? (input := .showFrame base n) rfl).highVarForOne s
  | stepWait => exact ⟨_, rfl, stepWait_highVarForOne _ s⟩
  | stepHighBase => exact ⟨_, rfl, stepHighBase_highVarForOne s⟩
  | stepHighVar => exact ⟨_, rfl, stepHighVar_highVarForOne s⟩
  | stepLow => exact ⟨_, rfl, stepLow_highVarForOne s⟩
  | endOfPixel => exact ⟨_, rfl, endOfPixel_highVarForOne s⟩
  | endOfBit | endOfByte | finish => exact ⟨_, rfl, .of_ne nofun⟩
  | stepIdle | stepDone | bit0 | bit1 | adjust | scale | construct | loadByte | advancePixel | has | tick | wait | mark
  | setHigh | setLow | toggle => exact ⟨_, rfl, .of_same rfl⟩

theorem highVarForOne_of_exec {i : Instr} {s t : State} (h : exec i s = .next t) : HighVarForOne s t := by
  obtain ⟨t', hexec, hentry⟩ := exec_highVarForOne i s
  cases h.symm.trans hexec
  exact hentry

/-! ### The step in HIGH_BASE by its last cycle (R184) -/

/-- The shift of R184 on the number in the shift register. -/
theorem shiftLeft_one_eq_ofNat (b : Byte) : b <<< 1 = BitVec.ofNat 8 (2 * b.toNat) := by
  bv_omega

theorem stepHighBase_last {s : State} (hph : ¬ s.enc.ph.toNat < s.params.T1 - 1) :
    stepHighBase s = if HasHighVar s then (testBit s).goto .highVar else beginLow (testBit s) :=
  if_neg hph

/-! ### The step in LOW by its last cycle (R186) -/

theorem stepLow_last {s : State} (hph : ¬ s.enc.ph.toNat < lowLen s.params s.enc.cb - 1) :
    stepLow s =
      if s.enc.bitn.toNat < 7 then endOfBit (restartPhase s)
      else if s.enc.slot.val < 2 then endOfByte (restartPhase s)
      else endOfPixel (restartPhase s) :=
  if_neg hph

end Sys2Proof.Machine

/-! ### The obligations of 43_bit_encoder.md -/

namespace Sys2Proof.Claims

open Sys2Proof.Machine

/-- Settles O56, by induction on the cycles of the gap: until it has elapsed a block that sends nothing, resting or in
WAIT, begins no bit. -/
theorem resetGapIsKept : Obligations.ResetGapIsKept := by
  intro s hs hrest hmarked hreset k hk
  have hidle := resting_iff.mp hrest
  obtain ⟨-, -, -, hc⟩ := (inv_iff s).mp hs
  have hquiet : s.enc.st.sending = false := by rcases hrest with h | h <;> rw [h] <;> rfl
  have hleft := gapCyclesLeft_of_marked s.params hmarked
  obtain ⟨t, hrun, hline⟩ := line_held_through_gap (n := k) hquiet (by omega) hreset
  exact ⟨t, hrun, hline.trans (hc.line_low hidle)⟩

/-- Settles O55: WAIT only ticks while cycles of the gap are left, and the step in the last one leaves it. -/
theorem waitLastsUntilTheGapHasElapsed : Obligations.WaitLastsUntilTheGapHasElapsed := by
  intro s hst hmarked hle hreset
  have hleft := gapCyclesLeft_of_marked s.params hmarked
  constructor
  · intro n hn
    obtain ⟨t, ht, -⟩ := ticks_gap (n := n) hst (by omega) hreset
    have helapsed := tickTimes_elapsed s.params n hle
    refine ⟨t, ht.run, ht.enc_eq, ht.trav_eq, ht.line_eq, ht.reads_eq, ?_, ?_⟩
    · rw [ht.gov_eq, tickTimes_marked, hmarked]
    · rw [ht.gov_eq, helapsed]
      omega
  · obtain ⟨t, ht, htleft⟩ := ticks_gap (n := s.params.WAIT_TIME - s.gov.elapsed.toNat) hst (by omega) hreset
    have hgap : t.gapOk = true := (gapOk_iff_gapCyclesLeft t).mpr (by omega)
    obtain ⟨u, hstep, hu⟩ := step_leaves_wait (by rw [ht.enc_eq]; exact hst) hgap ht.noReset
    exact ⟨u, steps_add ht.run (steps_one hstep), hu⟩

/-- Settles O57, by induction on the cycles: each of them only ticks. -/
theorem restingGapIsCounted : Obligations.RestingGapIsCounted := by
  intro s n hrest hle hhost
  obtain ⟨w, hrun⟩ := rest_run (n := n) (resting_iff.mp hrest) hhost
  exact ⟨_, hrun, rfl, rfl, rfl, rfl, rfl, rfl, tickTimes_marked .., tickTimes_elapsed _ _ hle, rfl⟩

/-- Settles O20: the steps of IDLE and DONE are nothing, so that the cycle is the tick and the record of the level. -/
theorem restingBlockOnlyTicks : Obligations.RestingBlockOnlyTicks := by
  intro s hrest
  refine ⟨rfl, rfl, ?_⟩
  rw [← tickGovernor_eq_ticked]
  exact congrArg _ (cycle_resting (resting_iff.mp hrest))

/-- Settles O21, by the gap and the remaining count. -/
theorem waitStep : Obligations.WaitStep := by
  intro s
  have hstep : exec .stepWait s = .next (stepWait s.gapOk s) := rfl
  rw [hstep]
  simp only [← gapOk_iff]
  refine ⟨fun hgap => congrArg _ (if_neg hgap), fun hgap hrem => ⟨_, rfl, ?_⟩, fun hgap hrem => ⟨_, rfl, ?_⟩⟩
  · rw [stepWait, if_pos hgap, if_pos hrem]
  · rw [stepWait, if_pos hgap, if_neg hrem]
    rfl

/-- Settles O22: in the last cycle of the phase the tested bit and `T2` choose the next state. -/
theorem highBaseStep : Obligations.HighBaseStep := by
  intro s
  refine ⟨fun hph => congrArg _ (if_pos hph), fun hph => ?_⟩
  have hstep : exec .stepHighBase s = .next (stepHighBase s) := rfl
  rw [hstep, stepHighBase_last hph, ← shiftLeft_one_eq_ofNat]
  split
  · rfl
  · rfl

/-- Settles O23: HIGH_VAR is entered by the step in HIGH_BASE alone, whose test is the guard. -/
theorem highVarStep : Obligations.HighVarStep :=
  fun _ => ⟨fun hph => congrArg _ (if_pos hph), fun hph => congrArg _ (if_neg hph),
    fun _ _ hexec => highVarForOne_of_exec hexec⟩

/-- Settles O24: after the last cycle of the low part the bit and the slot choose the boundary procedure. -/
theorem lowStep : Obligations.LowStep := by
  intro s lowlen z
  refine ⟨fun hph => congrArg _ (if_pos hph), fun hph hbit => ⟨_, rfl, ?_⟩, fun hph hbit hslot => ⟨_, rfl, ?_⟩,
    fun hph hbit hslot => ⟨_, rfl, ?_⟩⟩ <;> refine congrArg _ ((stepLow_last hph).trans ?_)
  · exact if_pos hbit
  · rw [if_neg (by omega), if_pos hslot]
    rfl
  · rw [if_neg (by omega), if_neg (by omega)]
    rfl

/-- Settles O25: below 2 the next slot does not wrap. -/
theorem endOfBitAndByte : Obligations.EndOfBitAndByte :=
  fun s => ⟨fun _ => rfl, fun hslot => ⟨s.enc.slot + 1, by omega, _, rfl, rfl⟩⟩

/-- Settles O26: the count that `AdvancePixel` leaves is 0 exactly when one pixel remained. -/
theorem endOfPixelAdvances : Obligations.EndOfPixelAdvances := by
  intro s _
  have hlast : s.trav.remain - 1 = 0 ↔ s.trav.remain = 1 := sub_eq_zero
  exact ⟨_, rfl, fun hone => ⟨_, rfl, congrArg _ (if_pos (hlast.mpr hone))⟩,
    fun hmore => ⟨_, rfl, congrArg _ (if_neg (mt hlast.mp hmore))⟩⟩

/-- Settles O27, by the three writes of `Finish`. -/
theorem finishMarksAndRests : Obligations.FinishMarksAndRests := fun _ => rfl

end Sys2Proof.Claims

/-! ### The obligation of 44_timing_governor.md -/

namespace Sys2Proof.Claims

open Sys2Proof.Machine

/-- Settles O38: the tick is that of the saturating counter, and the flag that `Wait` answers is `gap_ok`. -/
theorem governorOperations : Obligations.GovernorOperations := by
  intro s
  refine ⟨?_, ⟨s.gapOk, gapOk_iff s, rfl⟩, rfl⟩
  rw [← tickGovernor_eq_ticked]
  rfl

end Sys2Proof.Claims

/-! ### The obligation of 45_gpio_capability.md -/

namespace Sys2Proof.Machine

/-- The complement `1 − line` of R223, by its two values. -/
theorem toggle_eq_setLine_ite (s : State) : toggle s = s.setLine (if s.line then false else true) := by
  rw [toggle]
  cases s.line with
  | true => rfl
  | false => rfl

end Sys2Proof.Machine

namespace Sys2Proof.Claims

open Sys2Proof.Machine

/-- Settles O39: each of the three is `setLine` of the level that its rule names. -/
theorem pinOperations : Obligations.PinOperations :=
  fun s => ⟨rfl, rfl, congrArg _ (toggle_eq_setLine_ite s)⟩

end Sys2Proof.Claims

/-! ### The obligation of 60_exceptions.md -/

namespace Sys2Proof.Machine

/-- The frame of an operation (R54, R66) names the state it answers. -/
theorem exec_answers (i : Instr) (s : State) : ∃ t, exec i s = .next t := by
  obtain ⟨t, hexec, -⟩ := exec_keepsInputs i s
  exact ⟨t, hexec⟩

/-- A step is `NOP`'s cycle, the operation of the host's input, or the reset's cycle, so no state is unsafe. -/
theorem safe (s : State) : Safe s := by
  unfold Safe step
  split
  next => exact exec_answers .nop s
  next =>
    split
    next i _ => exact exec_answers i (fetched s)
    next => exact ⟨(fetched s).resetCycle, rfl⟩

end Sys2Proof.Machine

namespace Sys2Proof.Claims

open Sys2Proof.Machine

/-- Settles O7: the frame lemma of the operations gives their answers, and every case of `step` is one of them or the
reset's cycle. -/
theorem everyOperationCompletes : Obligations.EveryOperationCompletes := ⟨exec_answers, safe⟩

end Sys2Proof.Claims

/-! ### The obligations of 70_reset_and_hazards.md -/

namespace Sys2Proof.Machine

theorem fetched_cons {s : State} {c : HostCycle} {rest : List HostCycle} (h : s.host = c :: rest) :
    fetched s = (s.setMem (Memory.writeAll s.mem c.stores)).setHost rest := by
  rw [fetched, h]

/-- The reset input stands for no operation, so the step is the reset's cycle (R250; log 8). -/
theorem step_reset {s : State} {st : List (Word × Byte)} {rest : List HostCycle} (h : s.host = ⟨st, .reset⟩ :: rest) :
    step s = .next (fetched s).resetCycle := by
  rw [step, h]
  rfl

end Sys2Proof.Machine

namespace Sys2Proof.Claims

open Sys2Proof.Machine

/-- Settles O9: the reset state is built from the reset values of the block's parts. -/
theorem resetValuesOfTheBlock : Obligations.ResetValuesOfTheBlock := ⟨rfl, rfl, rfl, rfl, rfl⟩

/-- Settles O11: the step is the reset's cycle, run once the host's stores have landed. -/
theorem resetInputAbandonsTheFrame : Obligations.ResetInputAbandonsTheFrame := by
  intro s st rest hhost
  rw [step_reset hhost, fetched_cons hhost]
  rfl

end Sys2Proof.Claims
